-- ==== Sys2Proof/Word.lean ====
section
/-! DEFINITION. The word types of the part, and the one container used for its fixed tables. -/

namespace Sys2Proof

/-- A register of the host window, or one word of the DRAM: 16 bits. -/
abbrev Word := BitVec 16

/-- One byte of a client link frame (R174). -/
abbrev Byte := BitVec 8

/-- Replace the entry at index `i` of a fixed table. Every table of the part is a `Vector` read with
`Vector.get` and written with `put`. -/
def put {α : Type} {n : Nat} (v : Vector α n) (i : Fin n) (a : α) : Vector α n :=
  v.set i.val a i.isLt

end Sys2Proof
end

