-- ==== Sys2Proof/Config.lean ====
section
/-! DEFINITION. What the spec leaves open: free values. Nothing is known of them but their types. -/

namespace Sys2Proof

/-- FREE VALUE (log 13). The word the DRAM returns from a place whose contents the spec calls undefined (R12,
R22, R68), applied to a counter of State so that each such read has a value of its own. -/
opaque Config.undefinedWord : Nat → Word

/-- FREE VALUE (log 20). R9 says that an accepted edit of every class replaces the whole entry with the staged fields,
R11 that an accepted removal keeps the entry's other fields. Which of the two a removal does: `true` as R9, `false`
as R11. The entry is invalid after it either way. -/
opaque Config.removalStoresStaged : Bool

end Sys2Proof
end

