-- ==== Sys2Proof/Syntax.lean ====
section
/-! DEFINITION. The commands of the part: one constructor of `Instr` per row of spec/opcode_table.json.
The part is a block: a command is a host cycle, a frame or a level change on a client link, a window of the
DRAM bus, or one of the part's own timed happenings. -/

namespace Sys2Proof

/-- Client link port, 0 to 3. -/
abbrev PortId := Fin 4

/-- DRAM bank, 0 to 3. -/
abbrev BankId := Fin 4

/-- Host access slot, 0 to 3. -/
abbrev SlotId := Fin 4

/-- The four words a client drives on the shared data bus in the window of a WRITE burst (R22). -/
structure BurstData where
  word0 : Word
  word1 : Word
  word2 : Word
  word3 : Word
  deriving DecidableEq, Repr

/-- A frame on the inbound side of a client link: its bytes, and what the sender alone knows of its arrival: when it fell
among the windows, and whether the port's reset line met it (R15, R32, R174; log 2, log 10, log 31). -/
structure Arrival where
  /-- The bytes that arrived, the first first. -/
  bytes : List Byte
  /-- The frame arrives whole in a window that has begun since the last decision. Otherwise it arrives in the window
  that runs. -/
  inNextWindow : Bool
  /-- PRST was asserted at some moment while the frame arrived: the frame began under it, or was cut off by it. -/
  metPrst : Bool
  deriving DecidableEq, Repr

/-- The commands. The operands of a row are what its happening brings from outside the part. A host command that sends
notices or restarts a timer that counts windows says with `inNextWindow` that it falls in a window that has begun since the
last decision; without that word it falls in the window that runs (R23, R29, R96, log 2). -/
inductive Instr where
  /-- The RESET input is asserted (`true`) or deasserted (`false`) (R175). -/
  | powerOnReset (asserted : Bool)
  /-- Command code 1 (R140). -/
  | start
  /-- Command code 2 (R141). -/
  | hold
  /-- Command code 3 (R142). -/
  | resume
  /-- Command code 4 (R143, R144). -/
  | switch (inNextWindow : Bool := false)
  /-- Command code 5 (R135). -/
  | pageCopy
  /-- Command code 6 (R149). -/
  | softReset (inNextWindow : Bool := false)
  /-- Command code 7 with the region table selected (R63). -/
  | tableWriteRegion
  /-- Command code 7 with the remap table selected (R9). -/
  | tableWriteRemap
  /-- Command code 7 with a page selected (R134). -/
  | tableWritePage
  /-- Command code 8 (R157). -/
  | eventPop
  /-- A write to the command register whose code names no command (R165). -/
  | unknownCommand (code : BitVec 4)
  /-- Slot command 1 (R169). -/
  | goRead (slot : SlotId)
  /-- Slot command 2 (R169). -/
  | goWrite (slot : SlotId)
  /-- Slot command 3 (R169). -/
  | ack (slot : SlotId)
  /-- Port control write, action enable (R28). -/
  | portEnable (port : PortId)
  /-- Port control write, action disable (R29). -/
  | portDisable (port : PortId) (inNextWindow : Bool := false)
  /-- Port control write, select only (R164). -/
  | portSelect (port : PortId)
  /-- Bank status write (R164). -/
  | bankStatusSelect (bank : BankId) (view : Fin 4)
  /-- Interrupt enable write (R172). -/
  | interruptEnableWrite (enables : BitVec 4)
  /-- Event enable write (R154). -/
  | eventEnableWrite (mask : BitVec 8)
  /-- A host write of `value` to the register at word address `addr` (R162, R163). -/
  | registerWrite (addr : BitVec 5) (value : Word) (inNextWindow : Bool := false)
  /-- A frame carrying a REQUEST arrives whole on a port (R16). -/
  | request (port : PortId) (frame : Arrival)
  /-- A frame carrying a CANCEL arrives whole on a port (R18). -/
  | cancel (port : PortId) (frame : Arrival)
  /-- A frame the port cannot take as a message arrives whole on a port (R17). -/
  | discardedFrame (port : PortId) (frame : Arrival)
  /-- PRST is asserted on a port (R30). -/
  | prstAssert (port : PortId)
  /-- PRST is deasserted on a port (R32). -/
  | prstDeassert (port : PortId)
  /-- One window of the DRAM command bus (R89). Bit `p` of `ready` is port `p`'s READY level in the window
  (R21); `drive` is what a client drives on the shared data bus in it, `none` when none drives (R22). -/
  | windowDecision (ready : BitVec 4) (drive : Option BurstData)
  /-- The state timer of an OPENING bank runs out (R75). -/
  | openDelayExpiry (bank : BankId)
  /-- The state timer of a CLOSING bank runs out (R76, R78). -/
  | closeDelayExpiry (bank : BankId)
  /-- The state timer of a REFRESHING bank runs out (R77). -/
  | refreshTimeExpiry (bank : BankId)
  /-- A bank's row-min timer runs out (R72). -/
  | rowMinExpiry (bank : BankId)
  /-- A bank's write-recovery timer runs out (R72). -/
  | writeRecoveryExpiry (bank : BankId)
  /-- The refill that falls in this window is taken (R94). -/
  | refill
  /-- The interval timer expires (R112). -/
  | intervalExpiry
  /-- The stall count of the port's ACTIVE record with this tag reaches STALL_LIMIT (R55). -/
  | stallAbort (port : PortId) (tag : Fin 16)
  /-- Mode control takes the completion of a drain in DRAIN_HOLD (R145). -/
  | drainComplete
  /-- Mode control takes the flip of a pending switch at a wheel wrap (R147). -/
  | flip
  /-- The 32nd conditioning refresh ends (R128). -/
  | conditioningEnd
  deriving DecidableEq, Repr

end Sys2Proof
end

