-- ==== Sys2Proof/Decode.lean ====
section
/-! DEFINITION. Decoding. No row of spec/opcode_table.json gives bits, so no word spells a command
(`decodeTableWord`). What the spec does encode in bits towards the part is a client link frame (R174), which is
decoded here; `encodeRequest` and `encodeCancel` write the frames a client sends. -/

namespace Sys2Proof

/-- The command a table word spells: none, since the table gives no row any bits. -/
def decodeTableWord (_nbits _w : Nat) : Option Instr := none

/-- Bits `hi` down to `lo` of `n`, as a number. -/
def bits (n hi lo : Nat) : Nat := n / 2 ^ lo % 2 ^ (hi + 1 - lo)

/-- The direction of a transfer, as the requester sees it (R16). -/
inductive Kind where
  | read
  | write
  deriving DecidableEq, Repr

/-- The fields of a REQUEST (R16). `length` is 1 to 16. -/
structure RequestFields where
  kind : Kind
  tag : Fin 16
  bank : BankId
  row : Fin 2048
  firstBurst : Fin 64
  length : Nat
  deriving DecidableEq, Repr

/-- What a whole inbound frame carries (R174). -/
inductive Frame where
  /-- Kind code 01h with all five bytes. -/
  | request (fields : RequestFields)
  /-- Kind code 02h with both bytes. -/
  | cancel (tag : Fin 16)
  /-- A first byte that is neither 01h nor 02h. -/
  | unknown (code : Byte)
  /-- Shorter than its kind's length; `code` is the kind code, 0 for a frame with no bytes. -/
  | short (code : Byte)
  deriving DecidableEq, Repr

/-- The fields carried by bytes 1 to 4 of a REQUEST (R174). -/
def requestOf (b1 b2 b3 b4 : Byte) : RequestFields where
  kind := if bits b1.toNat 4 4 = 1 then .write else .read
  tag := ⟨bits b1.toNat 3 0, by unfold bits; omega⟩
  bank := ⟨bits b1.toNat 6 5, by unfold bits; omega⟩
  row := ⟨bits b3.toNat 2 0 * 256 + bits b2.toNat 7 0, by unfold bits; omega⟩
  firstBurst := ⟨bits b4.toNat 5 0, by unfold bits; omega⟩
  length := bits b3.toNat 7 4 + 1

/-- Decode a whole frame (R174). Bytes beyond the kind's length and unused bits are ignored. -/
def parseFrame : List Byte → Frame
  | [] => .short 0
  | code :: rest =>
    if code = 0x01#8 then
      match rest with
      | b1 :: b2 :: b3 :: b4 :: _ => .request (requestOf b1 b2 b3 b4)
      | _ => .short code
    else if code = 0x02#8 then
      match rest with
      | b1 :: _ => .cancel ⟨bits b1.toNat 3 0, by unfold bits; omega⟩
      | _ => .short code
    else .unknown code

/-- The kind code of a frame, 0 for a frame with no bytes (R17). -/
def frameCode (frame : List Byte) : Byte := frame.head?.getD 0

/-- The frame of a REQUEST as R174 lays it out, unused bits 0. -/
def encodeRequest (r : RequestFields) : List Byte :=
  [0x01#8,
   BitVec.ofNat 8 (r.tag.val + (if r.kind = .write then 16 else 0) + r.bank.val * 32),
   BitVec.ofNat 8 (r.row.val % 256),
   BitVec.ofNat 8 (r.row.val / 256 + (r.length - 1) * 16),
   BitVec.ofNat 8 r.firstBurst.val]

/-- The frame of a CANCEL as R174 lays it out, unused bits 0. -/
def encodeCancel (tag : Fin 16) : List Byte := [0x02#8, BitVec.ofNat 8 tag.val]

end Sys2Proof
end

