-- ==== Sys2Proof/Machine/State.lean ====
section
/-! DEFINITION. The state of the part as plain data, block by block, and its values right after reset. -/

namespace Sys2Proof.Machine

/-! ### Names -/

/-- A party that requests transfers and owns turns: a client port, or the host, H. -/
inductive Requester where
  | port (p : PortId)
  | host
  deriving DecidableEq, Repr

/-- Refusal and failure reasons, shared by REFUSE and the slots (R24, R169). -/
inductive Reason where
  | portDisabled
  | notRunning
  | held
  | dupTag
  | queueFull
  | rowSpan
  | noRegion
  | parked
  | denied
  | flushed
  deriving DecidableEq, Repr

/-- The status a DONE notice carries (R26). -/
inductive FinishStatus where
  | ok
  | cancelled
  | flushed
  | stalled
  deriving DecidableEq, Repr

/-- A notice to a client (R24 to R26). -/
inductive Notice where
  | accept (tag : Fin 16)
  | refuse (tag : Fin 16) (reason : Reason)
  | beat (tag : Fin 16) (index : Nat)
  | done (tag : Fin 16) (status : FinishStatus) (bursts : Nat) (preempted : Bool)
  deriving DecidableEq, Repr

/-! ### Requests (chapter 3) -/

/-- Who made an admitted request (R41). -/
inductive Origin where
  | port (p : PortId)
  | slot (k : SlotId)
  deriving DecidableEq, Repr

/-- The state of an outstanding record (R45). The stall count is present while ACTIVE and absent otherwise. -/
inductive RecordState where
  | queued
  | active (stall : Nat)
  | suspended
  deriving DecidableEq, Repr

/-- One admitted request (R41). `word` is present for host requests, `data` for host WRITEs. -/
structure Record where
  origin : Origin
  tag : Fin 16
  kind : Kind
  bank : BankId
  row : Fin 2048
  firstBurst : Fin 64
  word : Option (Fin 4)
  length : Nat
  region : Fin 16
  stamp : Nat
  state : RecordState
  burstsDone : Nat
  age : Nat
  preempted : Bool
  data : Option Word
  deriving DecidableEq, Repr

/-! ### Client link ports (chapter 2) -/

/-- One client link port. Its state follows from `enabled` and `prst` (R13). -/
structure Port where
  /-- The enable setting (R13). -/
  enabled : Bool
  /-- The PRST level: asserted (R14). -/
  prst : Bool
  /-- The READY level as last sampled: high (R14, R21). -/
  ready : Bool
  /-- MODEL'S OWN (log 5): the READY sample of the decision to come is known to be low, since a stall abort was taken on
  it. -/
  sampledLow : Bool
  /-- The port has taken a message in the window that runs (R15). -/
  messageTaken : Bool
  /-- The port queue, oldest record first (R43). -/
  queue : List Record
  /-- The notices produced so far in the window that runs, in order (R23, log 16). -/
  outbound : List Notice
  /-- The notices of the window before, in order (R23). -/
  outboundLast : List Notice
  deriving DecidableEq, Repr

/-! ### Tables (chapters 1 and 4) -/

/-- The refresh class of a region (R58). -/
inductive RefreshClass where
  | retain
  | half
  | off
  deriving DecidableEq, Repr

/-- One region entry (R58). Bit `k` of a permit set is port `k`, bit 4 is H. -/
structure Region where
  enabled : Bool
  bank : BankId
  firstGroup : Nat
  groupCount : Nat
  readPermit : BitVec 5
  writePermit : BitVec 5
  cls : RefreshClass
  refCount : Nat
  deriving DecidableEq, Repr

/-- One remap entry (R7). -/
structure RemapEntry where
  valid : Bool
  bank : BankId
  faultyRow : Fin 2048
  spare : Fin 16
  deriving DecidableEq, Repr

/-! ### Banks (chapter 5) -/

/-- The state of a bank with what is present in it: the rows in OPENING and OPEN, the windows left of the state
timer in OPENING, CLOSING and REFRESHING (R70). -/
inductive BankState where
  | closed
  | opening (row : Fin 2048) (phys : Nat) (left : Nat)
  | opened (row : Fin 2048) (phys : Nat)
  | closing (left : Nat)
  | refreshing (left : Nat)
  deriving DecidableEq, Repr

/-- One bank entry (R70). A timer that has run out is `none`; `some n` has `n` windows left, and `some 0` runs out
in the current window and has not been taken yet (R72). -/
structure Bank where
  state : BankState
  rowMin : Option Nat
  writeRecovery : Option Nat
  pins : Nat
  closePending : Bool
  deriving DecidableEq, Repr

/-! ### Refresh engine (chapter 7) -/

/-- The account of a bank (R110). -/
structure Account where
  debt : Int
  pointer : Nat
  oddPass : Bool
  deriving DecidableEq, Repr

/-- The conditioning state, with the conditioning count in CONDITIONING; the count is 0 in IDLE and CLEARING and
32 in TRAILING (R126). -/
inductive Conditioning where
  | idle
  | clearing
  | conditioning (count : Nat)
  | trailing
  deriving DecidableEq, Repr

/-- The refresh engine: the four accounts, the interval timer's elapsed count and the conditioning (R110, R112). -/
structure RefreshEngine where
  accounts : Vector Account 4
  elapsed : Nat
  conditioning : Conditioning
  deriving DecidableEq, Repr

/-! ### Credit bucket and arbiter (chapter 6) -/

/-- The credit bucket (R93, R94). -/
structure CreditBucket where
  count : Nat
  refillTimer : Nat
  /-- MODEL'S OWN (log 23): the refill that falls in this window has not been taken yet. -/
  refillDue : Bool
  deriving DecidableEq, Repr

/-- The command arbiter's own state (R91, R104), with the wrap on its way to mode control (R146). -/
structure Arbiter where
  wheelPosition : Nat
  pointer : Requester
  /-- MODEL'S OWN (log 6): a wheel wrap has been handed to mode control and its test has not been taken. -/
  wrapHanded : Bool
  deriving DecidableEq, Repr

/-! ### Configuration pages and mode control (chapter 8) -/

/-- The owner a wheel entry names (R91). -/
inductive Owner where
  | port (p : PortId)
  | host
  | refresh
  | free
  deriving DecidableEq, Repr

/-- The close policy (R84). -/
inductive ClosePolicy where
  | keep
  | closeIdle
  deriving DecidableEq, Repr

/-- A configuration page: the thirty fields of R132, the sixteen wheel entries as one. -/
structure Page where
  openDelay : Nat
  rowMin : Nat
  writeRecovery : Nat
  closeDelay : Nat
  refreshTime : Nat
  refreshInterval : Nat
  urgentLevel : Nat
  creditCapacity : Nat
  refillPeriod : Nat
  lookahead : Nat
  starvationLimit : Nat
  stallLimit : Nat
  closePolicy : ClosePolicy
  wheelLength : Nat
  wheel : Vector Owner 16
  deriving DecidableEq, Repr

/-- The drain return state (R138). -/
inductive ReturnState where
  | run
  | held
  deriving DecidableEq, Repr

/-- The scheduler state (R137). The drain return state is present in DRAIN_SWITCH only (R138). -/
inductive SchedState where
  | stopped
  | init
  | run
  | drainHold
  | drainSwitch (ret : ReturnState)
  | held
  deriving DecidableEq, Repr

/-- Mode control (R132, R133, R138). -/
structure ModeControl where
  pages : Vector Page 2
  runSelect : Fin 2
  sched : SchedState
  deriving DecidableEq, Repr

/-! ### Event queue (chapter 9) -/

/-- The kinds other than OVERFLOW (R152). -/
inductive EventKind where
  | initDone
  | holdDone
  | switchDone
  | refreshOverrun
  | preempt
  | accessDenied
  | stallAbort
  | protocolError
  deriving DecidableEq, Repr

/-- The source type with its index (R152). -/
inductive Source where
  | none
  | port (p : PortId)
  | bank (b : BankId)
  | region (r : Fin 16)
  deriving DecidableEq, Repr

/-- One event record (R152): a posted record, or an OVERFLOW record with its count. -/
inductive Event where
  | report (kind : EventKind) (source : Source) (tag : Option (Fin 16)) (detail : Nat)
  | overflow (count : Nat)
  deriving DecidableEq, Repr

/-- The event queue, oldest record first, and the enable mask; bit `k` enables the kind with code `k + 1`
(R154, R163). -/
structure EventQueue where
  records : List Event
  mask : BitVec 8
  deriving DecidableEq, Repr

/-! ### Host interface (chapter 10) -/

/-- The result codes of the command status (R165). -/
inductive Result where
  | ok
  | busy
  | wrongState
  | pageInvalid
  | badValue
  | overlap
  | regionBusy
  | notHeld
  | duplicate
  | spareInUse
  | rowOpen
  | nothing
  deriving DecidableEq, Repr

/-- The state of a host access slot, with the reason in FAILED (R169). -/
inductive SlotState where
  | free
  | queued
  | done
  | failed (reason : Reason)
  deriving DecidableEq, Repr

/-- One host access slot (R163, R169). The address high register keeps the five bits its layout names. -/
structure Slot where
  addrHigh : BitVec 5
  addrLow : Word
  data : Word
  state : SlotState
  kind : Kind
  deriving DecidableEq, Repr

/-- The host interface's own registers (R163). -/
structure HostInterface where
  result : Result
  detail : Nat
  portSelect : PortId
  slotEnables : BitVec 4
  tableSelect : BitVec 2
  tableIndex : BitVec 8
  stage : Vector Word 3
  bankSelect : BankId
  view : Fin 4
  slots : Vector Slot 4
  deriving DecidableEq, Repr

/-! ### The DRAM bus and the rank behind it (chapter 1) -/

/-- A command on the DRAM bus with its operands (R5, R6). `data` is what the data bus carries in the four beats
of a burst; `none` is a word that carries no meaningful or no defined data. -/
inductive DramCommand where
  | openRow (bank : BankId) (phys : Nat)
  | read (bank : BankId) (position : Nat) (mask : BitVec 4) (data : Vector (Option Word) 4)
  | write (bank : BankId) (position : Nat) (mask : BitVec 4) (data : Vector (Option Word) 4)
  | close (bank : BankId)
  | refresh (bank : BankId) (group : Nat)
  | closeAll
  deriving DecidableEq, Repr

/-- The words of the rank whose contents are defined: pairs of a word address and its word, addresses strictly
rising (log 13). A word not listed has undefined contents. -/
abbrev Dram := List (Nat × Word)

/-- The canonical form of the rank's contents. -/
def Dram.wf (m : Dram) : Bool := decide (m.Pairwise (fun a b => a.1 < b.1))

/-- MODEL'S OWN (log 30): what R12 asks of the past of a remapped row and of a spare row, before a remap edit brings it
back into use. -/
structure RowHistory where
  /-- The spare row of the bank has been left by an entry, and its group 128 has had no REFRESH since. -/
  freed : Vector (Vector Bool 16) 4
  /-- The faulty row of the entry has had no REFRESH of its group under class RETAIN or HALF since the entry was added. -/
  unrefreshed : Vector Bool 8
  deriving DecidableEq, Repr

/-! ### The whole part -/

/-- The state of the part. -/
structure State where
  /-- The RESET input is asserted (R175). -/
  resetAsserted : Bool
  host : HostInterface
  ports : Vector Port 4
  /-- The host queue, oldest record first (R44). -/
  hostQueue : List Record
  /-- The stamp the next filed record takes (R42). -/
  stamp : Nat
  regions : Vector Region 16
  remap : Vector RemapEntry 8
  banks : Vector Bank 4
  refresh : RefreshEngine
  credit : CreditBucket
  arbiter : Arbiter
  mode : ModeControl
  events : EventQueue
  /-- What the most recent window carried on the DRAM command bus; `none` is an idle window (R5, R89). -/
  bus : Option DramCommand
  /-- The contents of the attached rank (R1, R12, R68). -/
  dram : Dram
  /-- MODEL'S OWN (log 30): what R12 asks of the past of rows. -/
  history : RowHistory
  /-- MODEL'S OWN (log 2): the decision of the window that runs has been taken. -/
  decided : Bool
  /-- MODEL'S OWN (log 19): how many free values the run has used. -/
  freeCount : Nat
  /-- MODEL'S OWN (log 1): the commands that wait, first in, first out. -/
  pending : List Instr
  deriving DecidableEq, Repr

/-- The part never stops: every fault of chapter 9 is reported as data (a notice, a result code, an event), and
no behaviour of the spec ends a run. So there is no fault (log 28). -/
inductive Fault where
  deriving DecidableEq, Repr

/-- Why a command has no answer. -/
inductive Refusal where
  /-- Raised by `exec` for a row without a meaning. No arm raises it; it would be safe. -/
  | notModelled (mnemonic : String)
  deriving DecidableEq, Repr

/-! ### Values after power-on reset -/

/-- A page at the defaults of R132. -/
def Page.default : Page where
  openDelay := 3
  rowMin := 8
  writeRecovery := 3
  closeDelay := 3
  refreshTime := 12
  refreshInterval := 780
  urgentLevel := 6
  creditCapacity := 4
  refillPeriod := 10
  lookahead := 4
  starvationLimit := 256
  stallLimit := 512
  closePolicy := .keep
  wheelLength := 8
  wheel := #v[.port 0, .port 1, .port 2, .port 3, .host, .refresh, .free, .free,
    .free, .free, .free, .free, .free, .free, .free, .free]

/-- A port after power-on reset with its PRST line at level `prst` (R13, R34). The READY sample before the first
window is low (log 8). -/
def Port.powerOn (prst : Bool) : Port where
  enabled := false
  prst := prst
  ready := false
  sampledLow := false
  messageTaken := false
  queue := []
  outbound := []
  outboundLast := []

/-- A region entry after power-on reset (R69). -/
def Region.powerOn : Region where
  enabled := false
  bank := 0
  firstGroup := 0
  groupCount := 1
  readPermit := 0
  writePermit := 0
  cls := .retain
  refCount := 0

/-- A remap entry after power-on reset (R7). -/
def RemapEntry.powerOn : RemapEntry where
  valid := false
  bank := 0
  faultyRow := 0
  spare := 0

/-- A bank entry after power-on reset (R87). -/
def Bank.powerOn : Bank where
  state := .closed
  rowMin := none
  writeRecovery := none
  pins := 0
  closePending := false

/-- The refresh engine after power-on reset (R130). -/
def RefreshEngine.powerOn : RefreshEngine where
  accounts := Vector.replicate 4 { debt := 0, pointer := 0, oddPass := false }
  elapsed := 0
  conditioning := .idle

/-- The host interface after power-on reset (R163, R171). -/
def HostInterface.powerOn : HostInterface where
  result := .ok
  detail := 0
  portSelect := 0
  slotEnables := 0
  tableSelect := 0
  tableIndex := 0
  stage := Vector.replicate 3 0
  bankSelect := 0
  view := 0
  slots := Vector.replicate 4 { addrHigh := 0, addrLow := 0, data := 0, state := .free, kind := .read }

/-- No row has a past: contents are undefined everywhere (R12). -/
def RowHistory.powerOn : RowHistory where
  freed := Vector.replicate 4 (Vector.replicate 16 false)
  unrefreshed := Vector.replicate 8 false

/-- The part right after power-on reset: RESET deasserted, no window begun, every PRST line deasserted (log 9). -/
def State.reset : State where
  resetAsserted := false
  host := .powerOn
  ports := Vector.replicate 4 (.powerOn false)
  hostQueue := []
  stamp := 0
  regions := Vector.replicate 16 .powerOn
  remap := Vector.replicate 8 .powerOn
  banks := Vector.replicate 4 .powerOn
  refresh := .powerOn
  credit := { count := 4, refillTimer := 0, refillDue := false }
  arbiter := { wheelPosition := 0, pointer := .port 0, wrapHanded := false }
  mode := { pages := Vector.replicate 2 .default, runSelect := 0, sched := .stopped }
  events := { records := [], mask := BitVec.allOnes 8 }
  bus := none
  dram := []
  history := .powerOn
  decided := false
  freeCount := 0
  pending := []

end Sys2Proof.Machine
end

