-- ==== Sys2Proof/Machine/Operands.lean ====
section
/-! DEFINITION. The layouts of chapter 10 and the coordinates of chapter 1: the codes of every named value, the
notices as frames, the staged entries, the page fields by index, the event record's words, the split of a host
word address. -/

namespace Sys2Proof.Machine

/-! ### Codes (R163, R165, R168, R173, R174) -/

/-- The code of a direction (R163, R174). -/
def kindCode : Kind → Nat
  | .read => 0
  | .write => 1

/-- The reason codes (R174), FLUSHED included (R169). -/
def Reason.code : Reason → Nat
  | .portDisabled => 1
  | .notRunning => 2
  | .held => 3
  | .dupTag => 4
  | .queueFull => 5
  | .rowSpan => 6
  | .noRegion => 7
  | .parked => 8
  | .denied => 9
  | .flushed => 10

/-- The status codes of DONE (R174). -/
def FinishStatus.code : FinishStatus → Nat
  | .ok => 0
  | .cancelled => 1
  | .flushed => 2
  | .stalled => 3

/-- The result codes (R165). -/
def Result.code : Result → Nat
  | .ok => 0
  | .busy => 1
  | .wrongState => 2
  | .pageInvalid => 3
  | .badValue => 4
  | .overlap => 5
  | .regionBusy => 6
  | .notHeld => 7
  | .duplicate => 8
  | .spareInUse => 9
  | .rowOpen => 10
  | .nothing => 11

/-- The class codes (R168). -/
def RefreshClass.code : RefreshClass → Nat
  | .retain => 0
  | .half => 1
  | .off => 2

/-- The class a code names; 3 names none (R168). -/
def RefreshClass.ofCode : Nat → Option RefreshClass
  | 0 => some .retain
  | 1 => some .half
  | 2 => some .off
  | _ => none

/-- The wheel owner codes (R168). -/
def Owner.code : Owner → Nat
  | .port p => p.val
  | .host => 4
  | .refresh => 5
  | .free => 6

/-- The owner a code names (R168). -/
def Owner.ofCode : Nat → Option Owner
  | 0 => some (.port 0)
  | 1 => some (.port 1)
  | 2 => some (.port 2)
  | 3 => some (.port 3)
  | 4 => some .host
  | 5 => some .refresh
  | 6 => some .free
  | _ => none

/-- The close policy codes (R168). -/
def ClosePolicy.code : ClosePolicy → Nat
  | .keep => 0
  | .closeIdle => 1

/-- The policy a code names (R168). -/
def ClosePolicy.ofCode : Nat → Option ClosePolicy
  | 0 => some .keep
  | 1 => some .closeIdle
  | _ => none

/-- The kind codes of the events (R173); OVERFLOW is 9. -/
def EventKind.code : EventKind → Nat
  | .initDone => 1
  | .holdDone => 2
  | .switchDone => 3
  | .refreshOverrun => 4
  | .preempt => 5
  | .accessDenied => 6
  | .stallAbort => 7
  | .protocolError => 8

/-- The source type codes (R173). -/
def Source.typeCode : Source → Nat
  | .none => 0
  | .port _ => 1
  | .bank _ => 2
  | .region _ => 3

/-- The index of a source, 0 where absent (R173). -/
def Source.index : Source → Nat
  | .none => 0
  | .port p => p.val
  | .bank b => b.val
  | .region r => r.val

/-- A requester as the origin in the detail of ACCESS_DENIED and as a bit of a permit set: 0 to 3 for the ports,
4 for H (R168, R173). -/
def Requester.code : Requester → Nat
  | .port p => p.val
  | .host => 4

/-- The code of the scheduler state (R163). -/
def SchedState.code : SchedState → Nat
  | .stopped => 0
  | .init => 1
  | .run => 2
  | .drainHold => 3
  | .drainSwitch _ => 4
  | .held => 5

/-- The code of a bank state (R163). -/
def BankState.code : BankState → Nat
  | .closed => 0
  | .opening _ _ _ => 1
  | .opened _ _ => 2
  | .closing _ => 3
  | .refreshing _ => 4

/-- The code of a slot state (R163). -/
def SlotState.code : SlotState → Nat
  | .free => 0
  | .queued => 1
  | .done => 2
  | .failed _ => 3

/-- The detail of ACCESS_DENIED: the origin in bits 2 to 0, the reason in bits 5 to 4 (R173). -/
def deniedDetail (who : Requester) : Reason → Nat
  | .noRegion => who.code + 1 * 16
  | .parked => who.code + 2 * 16
  | .denied => who.code + 3 * 16
  | _ => who.code

/-! ### Notices as frames (R174) -/

/-- The frame a notice is sent as (R174). DESIGN CHOICE (log 33): the bits that the layout leaves unused are 0; R174 says
only that unused bits of inbound frames are ignored. DESIGN CHOICE (log 34): preempted shows as 1. -/
def Notice.frame : Notice → List Byte
  | .accept tag => [0x81#8, BitVec.ofNat 8 tag.val]
  | .refuse tag reason => [0x82#8, BitVec.ofNat 8 (tag.val + reason.code * 16)]
  | .beat tag index => [0x83#8, BitVec.ofNat 8 (tag.val + index * 16)]
  | .done tag status bursts preempted =>
      [0x84#8, BitVec.ofNat 8 (tag.val + status.code * 16 + (if preempted then 64 else 0)), BitVec.ofNat 8 bursts]

/-! ### Host word addresses (R3) -/

/-- The word address a slot's two address registers carry (R163). -/
def Slot.address (k : Slot) : Nat := k.addrHigh.toNat * 65536 + k.addrLow.toNat

/-- The bank of word address `a` (R3). -/
def addrBank (a : Nat) : BankId := ⟨a / 524288 % 4, by omega⟩

/-- The logical row of word address `a` (R3). -/
def addrRow (a : Nat) : Fin 2048 := ⟨a / 256 % 2048, by omega⟩

/-- The first burst of word address `a` (R3). -/
def addrBurst (a : Nat) : Fin 64 := ⟨a % 256 / 4, by omega⟩

/-- The word within the burst of word address `a` (R3). -/
def addrWord (a : Nat) : Fin 4 := ⟨a % 4, by omega⟩

/-- The logical group of a logical row (R4). -/
def groupOf (row : Fin 2048) : Nat := row.val / 16

/-! ### Staged entries (R168) -/

/-- A staged region entry: the fields as the layout carries them, not yet checked (R168). -/
structure StagedRegion where
  enabled : Bool
  bank : BankId
  firstGroup : Nat
  groupCount : Nat
  readPermit : BitVec 5
  writePermit : BitVec 5
  clsCode : Nat
  deriving DecidableEq, Repr

/-- The stage read in the region layout (R168). DESIGN CHOICE (log 34): the enabled bit enables as 1, and a permit bit permits
as 1. -/
def stagedRegion (stage : Vector Word 3) : StagedRegion where
  enabled := bits (stage.get 2).toNat 15 15 == 1
  bank := ⟨bits (stage.get 2).toNat 1 0, by unfold bits; omega⟩
  firstGroup := bits (stage.get 0).toNat 7 0
  groupCount := bits (stage.get 0).toNat 15 8
  readPermit := BitVec.ofNat 5 (bits (stage.get 1).toNat 4 0)
  writePermit := BitVec.ofNat 5 (bits (stage.get 1).toNat 12 8)
  clsCode := bits (stage.get 2).toNat 3 2

/-- A staged remap entry; `faultyRow` is the twelve-bit field, 0 to 4,095 (R168). -/
structure StagedRemap where
  valid : Bool
  bank : BankId
  faultyRow : Nat
  spare : Fin 16
  deriving DecidableEq, Repr

/-- The stage read in the remap layout (R168). DESIGN CHOICE (log 34): the valid bit makes the entry valid as 1. -/
def stagedRemap (stage : Vector Word 3) : StagedRemap where
  valid := bits (stage.get 2).toNat 15 15 == 1
  bank := ⟨bits (stage.get 1).toNat 9 8, by unfold bits; omega⟩
  faultyRow := bits (stage.get 0).toNat 11 0
  spare := ⟨bits (stage.get 1).toNat 3 0, by unfold bits; omega⟩

/-- A region entry shown in the three table data words (R168). DESIGN CHOICE (log 34): 1 shows a requester that a permit set
holds, and an enabled entry. -/
def Region.words (r : Region) : Vector Word 3 :=
  #v[BitVec.ofNat 16 (r.firstGroup + r.groupCount * 256),
     BitVec.ofNat 16 (r.readPermit.toNat + r.writePermit.toNat * 256),
     BitVec.ofNat 16 (r.bank.val + r.cls.code * 4 + r.refCount * 256 + (if r.enabled then 32768 else 0))]

/-- A remap entry shown in the three table data words (R168). DESIGN CHOICE (log 34): 1 shows a valid entry. -/
def RemapEntry.words (e : RemapEntry) : Vector Word 3 :=
  #v[BitVec.ofNat 16 e.faultyRow.val,
     BitVec.ofNat 16 (e.spare.val + e.bank.val * 256),
     if e.valid then 0x8000#16 else 0]

/-! ### Page fields by index (R132, R134) -/

/-- The value of the page field with index `i`; 0 beyond the thirty fields (R132, R166). -/
def Page.field (p : Page) : Nat → Nat
  | 0 => p.openDelay
  | 1 => p.rowMin
  | 2 => p.writeRecovery
  | 3 => p.closeDelay
  | 4 => p.refreshTime
  | 5 => p.refreshInterval
  | 6 => p.urgentLevel
  | 7 => p.creditCapacity
  | 8 => p.refillPeriod
  | 9 => p.lookahead
  | 10 => p.starvationLimit
  | 11 => p.stallLimit
  | 12 => p.closePolicy.code
  | 13 => p.wheelLength
  | i + 14 => ((p.wheel.toList[i]?).map Owner.code).getD 0

/-- `page` if `v` lies from `lo` to `hi`. -/
def ifInRange (lo hi v : Nat) (page : Page) : Option Page := if lo ≤ v ∧ v ≤ hi then some page else none

/-- The page with field `i` set to `v`; `none` where `i` is no field, or `v` is outside the field's range, or its
code names no policy or no owner (R132, R134). -/
def Page.withField (p : Page) (i v : Nat) : Option Page :=
  match i with
  | 0 => ifInRange 1 15 v { p with openDelay := v }
  | 1 => ifInRange 1 31 v { p with rowMin := v }
  | 2 => ifInRange 1 15 v { p with writeRecovery := v }
  | 3 => ifInRange 1 15 v { p with closeDelay := v }
  | 4 => ifInRange 4 63 v { p with refreshTime := v }
  | 5 => ifInRange 64 8191 v { p with refreshInterval := v }
  | 6 => ifInRange 2 7 v { p with urgentLevel := v }
  | 7 => ifInRange 1 8 v { p with creditCapacity := v }
  | 8 => ifInRange 1 255 v { p with refillPeriod := v }
  | 9 => ifInRange 1 4 v { p with lookahead := v }
  | 10 => ifInRange 16 4095 v { p with starvationLimit := v }
  | 11 => ifInRange 16 4095 v { p with stallLimit := v }
  | 12 => (ClosePolicy.ofCode v).map fun c => { p with closePolicy := c }
  | 13 => ifInRange 4 16 v { p with wheelLength := v }
  | i + 14 =>
    if h : i < 16 then (Owner.ofCode v).map fun o => { p with wheel := put p.wheel ⟨i, h⟩ o } else none

/-- The owner of wheel position `i` (R91). -/
def Page.owner (p : Page) (i : Nat) : Owner := (p.wheel.toList[i]?).getD .free

/-- The owners of the windows of the wheel: entries 0 to WHEEL_LENGTH - 1 (R91). -/
def Page.owners (p : Page) : List Owner := p.wheel.toList.take p.wheelLength

/-! ### Event records (R173) -/

/-- Event head word 0 of a record (R173). -/
def Event.word0 : Event → Word
  | .report kind source _ _ => BitVec.ofNat 16 (kind.code + source.typeCode * 16 + source.index * 256)
  | .overflow _ => BitVec.ofNat 16 9

/-- Event head word 1 of a record (R173). DESIGN CHOICE (log 34): 1 in bit 15 shows that the record has a tag. -/
def Event.word1 : Event → Word
  | .report _ _ tag detail =>
      BitVec.ofNat 16 (detail + (match tag with | some t => t.val * 256 + 32768 | none => 0))
  | .overflow _ => 0

/-- Event head word 2 of a record (R173). -/
def Event.word2 : Event → Word
  | .report _ _ _ _ => 0
  | .overflow count => BitVec.ofNat 16 count

end Sys2Proof.Machine
end

