-- ==== Sys2Proof/Machine/Flags.lean ====
section
/-! DEFINITION. The levels and answers the blocks compute from their state when asked and do not store: port
states, the interrupt line, refresh levels and classes, what a bank will take, overlap and cover tests. -/

namespace Sys2Proof.Machine

/-- The banks in ascending number. -/
def allBanks : List BankId := [0, 1, 2, 3]

/-- The ports in ascending number. -/
def allPorts : List PortId := [0, 1, 2, 3]

/-- The slots in ascending number. -/
def allSlots : List SlotId := [0, 1, 2, 3]

/-- The region indices in ascending order. -/
def allRegions : List (Fin 16) := [0, 1, 2, 3, 4, 5, 6, 7, 8, 9, 10, 11, 12, 13, 14, 15]

/-- The remap indices in ascending order. -/
def allRemap : List (Fin 8) := [0, 1, 2, 3, 4, 5, 6, 7]

/-- The owners of turns in the cyclic order of the round-robin (R104). -/
def allRequesters : List Requester := [.port 0, .port 1, .port 2, .port 3, .host]

/-! ### Pages and selectors (R133) -/

/-- The run page (R133). -/
def State.runPage (s : State) : Page := s.mode.pages.get s.mode.runSelect

/-- The number of the edit page: the one the run selector does not name (R133). -/
def State.editSelect (s : State) : Fin 2 := s.mode.runSelect + 1

/-- The edit page (R133). -/
def State.editPage (s : State) : Page := s.mode.pages.get s.editSelect

/-! ### Ports (R13) -/

/-- The state of a port (R13). -/
inductive PortState where
  | disabled
  | enabled
  | inReset
  deriving DecidableEq, Repr

/-- A port's state follows from its enable setting and its PRST level (R13). -/
def Port.state (p : Port) : PortState :=
  if p.prst then .inReset else if p.enabled then .enabled else .disabled

/-- The code of a port state (R163). -/
def PortState.code : PortState → Nat
  | .disabled => 0
  | .enabled => 1
  | .inReset => 2

/-! ### Queues -/

/-- The queue of a requester (R43, R44). -/
def State.queueOf (s : State) : Requester → List Record
  | .port p => (s.ports.get p).queue
  | .host => s.hostQueue

/-- Every outstanding record of the five queues. -/
def State.outstanding (s : State) : List Record := allRequesters.flatMap s.queueOf

/-- The record is ACTIVE (R45). -/
def Record.isActive (r : Record) : Bool :=
  match r.state with
  | .active _ => true
  | _ => false

/-- The burst ranges of two records intersect on one logical row of one bank (R51). -/
def Record.overlaps (r q : Record) : Bool :=
  r.bank == q.bank && r.row == q.row &&
    r.firstBurst.val < q.firstBurst.val + q.length && q.firstBurst.val < r.firstBurst.val + r.length

/-- The record is overdue: its age is at least STARVATION_LIMIT (R54, R105). -/
def Record.overdue (p : Page) (r : Record) : Bool := p.starvationLimit ≤ r.age

/-! ### Regions (R58, R60, R61, R64) -/

/-- The entry covers group `g` of bank `b` (R58). -/
def Region.covers (e : Region) (b : BankId) (g : Nat) : Bool :=
  e.enabled && e.bank == b && e.firstGroup ≤ g && g < e.firstGroup + e.groupCount

/-- The enabled entry that covers a group, if one does (R59, R60). -/
def coveringRegion (t : Vector Region 16) (b : BankId) (g : Nat) : Option (Fin 16) :=
  allRegions.find? fun i => (t.get i).covers b g

/-- The requester is in the entry's permit set for the kind (R60). -/
def Region.permits (e : Region) (who : Requester) : Kind → Bool
  | .read => e.readPermit.getLsbD who.code
  | .write => e.writePermit.getLsbD who.code

/-- The class of a group: the covering entry's, RETAIN for an uncovered group and for group 128 (R61). -/
def classOf (t : Vector Region 16) (b : BankId) (g : Nat) : RefreshClass :=
  if g = 128 then .retain
  else
    match coveringRegion t b g with
    | some i => (t.get i).cls
    | none => .retain

/-- The group ranges of two entries intersect (R64). -/
def rangesIntersect (first count first' count' : Nat) : Bool := first < first' + count' && first' < first + count

/-! ### Refresh levels (R111, R116) -/

/-- The group needs a real refresh in this pass (R116). -/
def needsRefresh (cls : RefreshClass) (oddPass : Bool) : Bool :=
  match cls with
  | .retain => true
  | .half => !oddPass
  | .off => false

/-- The account of bank `b`. -/
def State.account (s : State) (b : BankId) : Account := s.refresh.accounts.get b

/-- The group at the bank's pointer needs a real refresh (R116). -/
def State.pointerNeedsRefresh (s : State) (b : BankId) : Bool :=
  needsRefresh (classOf s.regions b (s.account b).pointer) (s.account b).oddPass

/-- The bank owes refresh (R111). -/
def State.owed (s : State) (b : BankId) : Bool := 0 < (s.account b).debt

/-- The bank is urgent (R111). -/
def State.urgent (s : State) (b : BankId) : Bool := (s.runPage.urgentLevel : Int) ≤ (s.account b).debt

/-- The bank is critical (R111). -/
def State.critical (s : State) (b : BankId) : Bool := (s.account b).debt == 8

/-! ### What a bank will take (R79 to R81, R84) -/

/-- The bank is CLOSED. -/
def Bank.isClosed (k : Bank) : Bool :=
  match k.state with
  | .closed => true
  | _ => false

/-- The bank is OPEN. -/
def Bank.isOpen (k : Bank) : Bool :=
  match k.state with
  | .opened _ _ => true
  | _ => false

/-- The logical open row, present in OPENING and OPEN (R70). -/
def Bank.openRow? (k : Bank) : Option (Fin 2048) :=
  match k.state with
  | .opening row _ _ => some row
  | .opened row _ => some row
  | _ => none

/-- The physical row, present in OPENING and OPEN (R70). -/
def Bank.physRow? (k : Bank) : Option Nat :=
  match k.state with
  | .opening _ phys _ => some phys
  | .opened _ phys => some phys
  | _ => none

/-- The bank is OPEN on logical row `row`. -/
def Bank.openOn (k : Bank) (row : Fin 2048) : Bool := k.isOpen && k.openRow? == some row

/-- A CLOSE is allowed (R81). -/
def Bank.closeAllowed (k : Bank) : Bool :=
  k.isOpen && k.pins == 0 && k.rowMin.isNone && k.writeRecovery.isNone

/-- A burst on `row` may be issued to bank `b` (R80). -/
def State.burstAllowed (s : State) (b : BankId) (row : Fin 2048) : Bool :=
  (s.banks.get b).openOn row && !(s.banks.get b).closePending && (s.account b).debt < 8

/-- The record names bank `b` and its open row. -/
def Record.namesOpenRow (k : Bank) (b : BankId) (r : Record) : Bool := r.bank == b && k.openRow? == some r.row

/-- The bank is idle-closable (R84). -/
def State.idleClosable (s : State) (b : BankId) : Bool :=
  s.runPage.closePolicy == .closeIdle && (s.banks.get b).closeAllowed &&
    !s.outstanding.any (Record.namesOpenRow (s.banks.get b) b)

/-! ### Mode control (R137, R145) -/

/-- The states in which the interval timer runs: RUN, DRAIN_HOLD, DRAIN_SWITCH and HELD (R112). -/
def SchedState.running : SchedState → Bool
  | .stopped => false
  | .init => false
  | _ => true

/-- The drain condition: no record ACTIVE or SUSPENDED, no bank OPENING or OPEN (R145). -/
def State.drained (s : State) : Bool :=
  s.outstanding.all (fun r => r.state == .queued) && allBanks.all fun b => (s.banks.get b).openRow?.isNone

/-! ### Interrupt line (R158, R172) -/

/-- The event queue's non-empty level (R158). -/
def State.eventsPresent (s : State) : Bool := !s.events.records.isEmpty

/-- The slot is DONE or FAILED. -/
def Slot.complete (k : Slot) : Bool :=
  match k.state with
  | .done => true
  | .failed _ => true
  | _ => false

/-- The INT line: an event is held, or a slot is DONE or FAILED with its enable set (R172). It is deasserted while
RESET is asserted (R175). -/
def State.int (s : State) : Bool :=
  !s.resetAsserted &&
    (s.eventsPresent || allSlots.any fun k => (s.host.slots.get k).complete && s.host.slotEnables.getLsbD k.val)

end Sys2Proof.Machine
end

