-- ==== Sys2Proof/Machine/Ops.lean ====
section
/-! DEFINITION. The named operations that the happenings share: updates of one entry of a table, the command
status, event posts, notices, the finish of a record, critical suspension, the completion of a drain, and the
contents of the rank. -/

namespace Sys2Proof.Machine

/-- The outcome of a happening that acts by `f`: while RESET is asserted the part holds its power-on values and
the happening has no effect (R175). -/
def State.live (s : State) (f : State → State) : Host.Outcome State Fault Refusal :=
  .next (if s.resetAsserted then s else f s)

/-! ### One entry of a table -/

/-- Update port `p`. -/
def State.modPort (s : State) (p : PortId) (f : Port → Port) : State :=
  { s with ports := put s.ports p (f (s.ports.get p)) }

/-- Update bank entry `b`. -/
def State.modBank (s : State) (b : BankId) (f : Bank → Bank) : State :=
  { s with banks := put s.banks b (f (s.banks.get b)) }

/-- Update region entry `i`. -/
def State.modRegion (s : State) (i : Fin 16) (f : Region → Region) : State :=
  { s with regions := put s.regions i (f (s.regions.get i)) }

/-- Update the account of bank `b`. -/
def State.modAccount (s : State) (b : BankId) (f : Account → Account) : State :=
  { s with refresh := { s.refresh with accounts := put s.refresh.accounts b (f (s.refresh.accounts.get b)) } }

/-- Update host slot `k`. -/
def State.modSlot (s : State) (k : SlotId) (f : Slot → Slot) : State :=
  { s with host := { s.host with slots := put s.host.slots k (f (s.host.slots.get k)) } }

/-- Set the scheduler state (R137). -/
def State.setSched (s : State) (st : SchedState) : State := { s with mode := { s.mode with sched := st } }

/-! ### Command status (R138, R165) -/

/-- Replace the command status by a result with detail 0. -/
def State.setResult (s : State) (r : Result) : State := { s with host := { s.host with result := r, detail := 0 } }

/-! ### Events (R154, R155) -/

/-- Take a post of an enabled kind against the queue's room and its newest record (R155). -/
def storePost (records : List Event) (e : Event) : List Event :=
  if records.length < 15 then records ++ [e]
  else
    match records.getLast? with
    | some (.overflow n) => records.dropLast ++ [.overflow (if n < 255 then n + 1 else n)]
    | _ => records ++ [.overflow 1]

/-- Post an event: judged against the mask, then against the room (R154, R155). -/
def State.post (s : State) (kind : EventKind) (source : Source) (tag : Option (Fin 16)) (detail : Nat) : State :=
  if s.events.mask.getLsbD (kind.code - 1) then
    { s with events := { s.events with records := storePost s.events.records (.report kind source tag detail) } }
  else s

/-! ### Windows (R15, R23, R89) -/

/-- A new window at a port: it may take a message again, and what it produced before has left (R15, R23). -/
def Port.beginWindow (k : Port) : Port := { k with messageTaken := false, outbound := [], outboundLast := k.outbound }

/-- The window whose decision has been taken ends and the next begins. Where the decision of the window that runs is
still to come, no new window has begun: each window has its decision (R89, log 2). -/
def State.beginWindow (s : State) : State :=
  if s.decided then { s with ports := s.ports.map Port.beginWindow, decided := false } else s

/-- The state in which a happening is taken: a window that its sender says has begun since the last decision begins; a
happening of the window that runs finds the state as it is (log 2). -/
def State.inWindow (s : State) (next : Bool) : State := if next then s.beginWindow else s

/-! ### Notices (R23) -/

/-- Produce a notice on port `p`. -/
def State.notify (s : State) (p : PortId) (n : Notice) : State :=
  s.modPort p fun k => { k with outbound := k.outbound ++ [n] }

/-! ### The finish of a record (R47) -/

/-- What a finishing record gives back: its region's count falls by one and, if it was ACTIVE, its bank's pin
count (R47, R62, R82). -/
def State.release (s : State) (r : Record) : State :=
  let t := s.modRegion r.region fun e => { e with refCount := e.refCount - 1 }
  if r.isActive then t.modBank r.bank fun k => { k with pins := k.pins - 1 } else t

/-- The DONE notice of a record that finishes with `status` (R26). -/
def Record.doneNotice (status : FinishStatus) (r : Record) : Notice :=
  .done r.tag status r.burstsDone r.preempted

/-- A record of port `p` finishes with `status`: it leaves its queue, the order of the rest kept, and DONE is sent
(R26, R47). -/
def State.finishClient (s : State) (p : PortId) (r : Record) (status : FinishStatus) : State :=
  (s.release r).modPort p fun k =>
    { k with queue := k.queue.eraseP (fun q => q.tag == r.tag), outbound := k.outbound ++ [r.doneNotice status] }

/-- Every outstanding record of port `p` finishes, oldest first, with the given notices (R29, R30). -/
def State.emptyPort (s : State) (p : PortId) (notices : List Record → List Notice) : State :=
  let q := (s.ports.get p).queue
  (q.foldl State.release s).modPort p fun k => { k with queue := [], outbound := k.outbound ++ notices q }

/-- The flush of port `p`: every record finishes FLUSHED with its DONE (R29). -/
def State.flushPort (s : State) (p : PortId) : State := s.emptyPort p (List.map (Record.doneNotice .flushed))

/-- The silent end of port `p`'s records at PRST assertion: no DONE (R30). -/
def State.silencePort (s : State) (p : PortId) : State := s.emptyPort p fun _ => []

/-- A QUEUED slot becomes FAILED(FLUSHED); the others are kept (R171). -/
def Slot.flush (k : Slot) : Slot :=
  match k.state with
  | .queued => { k with state := .failed .flushed }
  | _ => k

/-- Every host record finishes FLUSHED and its slot becomes FAILED(FLUSHED) (R151). -/
def State.flushHost (s : State) : State :=
  let t := s.hostQueue.foldl State.release s
  { t with hostQueue := [], host := { t.host with slots := t.host.slots.map Slot.flush } }

/-! ### Records in place -/

/-- Apply `f` to every outstanding record of the five queues. -/
def State.mapRecords (s : State) (f : Record → Record) : State :=
  { s with
    ports := s.ports.map fun k => { k with queue := k.queue.map f }
    hostQueue := s.hostQueue.map f }

/-- An ACTIVE record on bank `b` becomes SUSPENDED with preempted yes (R48). -/
def Record.suspend (b : BankId) (r : Record) : Record :=
  if r.isActive && r.bank == b then { r with state := .suspended, preempted := true } else r

/-- How many ACTIVE records bank `b` has. -/
def State.activeOn (s : State) (b : BankId) : Nat := s.outstanding.countP fun r => r.isActive && r.bank == b

/-- The critical suspension of bank `b` (R48). -/
def State.suspendBank (s : State) (b : BankId) : State :=
  (s.mapRecords (Record.suspend b)).modBank b fun k => { k with pins := 0 }

/-! ### Drain completion (R145) -/

/-- In DRAIN_HOLD the completion is taken within the happening that makes the drain condition true: the state
becomes HELD and HOLD_DONE is posted (R145). -/
def State.settleDrain (s : State) : State :=
  if s.mode.sched = .drainHold ∧ s.drained then (s.setSched .held).post .holdDone .none none 0 else s

/-! ### The contents of the rank (R1, R6, R12, R68) -/

/-- The number of the word at a column of a physical row of a bank, among the 4 × 2,064 × 256 words of the rank
(R1). -/
def dramAddr (b : BankId) (phys col : Nat) : Nat := (b.val * 2064 + phys) * 256 + col

/-- The word at an address, `none` where its contents are undefined. -/
def Dram.read (m : Dram) (a : Nat) : Option Word := (m.find? fun c => c.1 == a).map Prod.snd

/-- Write a word in its place. -/
def Dram.write : Dram → Nat → Word → Dram
  | [], a, w => [(a, w)]
  | c :: rest, a, w =>
    if a < c.1 then (a, w) :: c :: rest
    else if a = c.1 then (a, w) :: rest
    else c :: Dram.write rest a w

/-- The words of `n` addresses from `lo` become undefined. -/
def Dram.forget (m : Dram) (lo n : Nat) : Dram := m.filter fun c => c.1 < lo || lo + n ≤ c.1

/-- Store a word, or leave its place undefined where no defined word is driven (R22). -/
def Dram.store (m : Dram) (a : Nat) : Option Word → Dram
  | some w => m.write a w
  | none => m.forget a 1

/-- The 256 words of a physical row of bank `b` become undefined (R1, R12). -/
def Dram.forgetRow (m : Dram) (b : BankId) (phys : Nat) : Dram := m.forget (dramAddr b phys 0) 256

/-- The sixteen rows of group `g` of bank `b` become undefined (R4, R68). -/
def Dram.forgetGroup (m : Dram) (b : BankId) (g : Nat) : Dram := m.forget (dramAddr b (16 * g) 0) 4096

/-- The address lies in group `g` of bank `b` (R4). -/
def inGroup (b : BankId) (g a : Nat) : Bool := dramAddr b (16 * g) 0 ≤ a && a < dramAddr b (16 * g) 0 + 4096

/-- The rows of every group that meets `q` become undefined (R4, R68). An address lies in no group but the one it
counts to from its bank's first word. -/
def Dram.forgetGroups (m : Dram) (q : BankId → Nat → Bool) : Dram :=
  m.filter fun c => !allBanks.any fun b =>
    q b ((c.1 - dramAddr b 0 0) / 4096) && inGroup b ((c.1 - dramAddr b 0 0) / 4096) c.1

end Sys2Proof.Machine
end

