-- ==== Sys2Proof/Machine/Credit.lean ====
section
/-! DEFINITION. The credit bucket (chapter 6, R93 to R96). -/

namespace Sys2Proof.Machine

/-- A refill: the count rises by one below the capacity, the timer returns to 0 (R94). -/
def CreditBucket.refilled (c : CreditBucket) (capacity : Nat) : CreditBucket where
  count := if c.count < capacity then c.count + 1 else c.count
  refillTimer := 0
  refillDue := false

/-- The refill that falls in this window is taken (R94). Where none falls in it, or it has been taken, the happening
does not occur (log 4). -/
def State.refill (s : State) : State :=
  if s.credit.refillDue then { s with credit := s.credit.refilled s.runPage.creditCapacity } else s

/-- A window passes at the refill timer: it rises by one, and a refill falls in the window in which it reaches
REFILL_PERIOD (R94). -/
def CreditBucket.tick (c : CreditBucket) (period : Nat) : CreditBucket :=
  { c with refillTimer := c.refillTimer + 1, refillDue := c.refillDue || period ≤ c.refillTimer + 1 }

/-- The refill timer restarts at 0 in the window that runs. A window that has had its decision has been `counted` at the
timer already, so the restarted timer counts it again from 0, and no refill of the time before falls in the next window; in
a window that has not, a refill that falls in it and has not been taken is still taken (R94, R96, log 2, log 23). -/
def CreditBucket.restart (c : CreditBucket) (counted : Bool) (period : Nat) : CreditBucket :=
  if counted then { c with refillTimer := 0, refillDue := false }.tick period else { c with refillTimer := 0 }

/-- The clamp at a flip: the count falls to the capacity of the page that now runs, the timer restarts (R96). A
refill that falls in the flip's window and has not been taken is taken against the new page (R96). What a SWITCH in STOPPED
leaves of the timer and of the mark after its window's decision is log 2 and log 23. -/
def State.clampCredit (s : State) : State :=
  { s with
    credit :=
      { s.credit with count := min s.credit.count s.runPage.creditCapacity }.restart s.decided s.runPage.refillPeriod }

/-- The bucket at SOFT_RESET in STOPPED or INIT: full, the timer at 0 in the window that runs, no refill left from before
(R96, R150; its window, and the count of it after the decision: log 2, log 23). -/
def State.softResetCredit (s : State) : CreditBucket :=
  { count := s.runPage.creditCapacity, refillTimer := 0, refillDue := false : CreditBucket }.restart s.decided
    s.runPage.refillPeriod

/-- One credit is taken for an OPEN or a REFRESH (R93). -/
def State.takeCredit (s : State) : State := { s with credit := { s.credit with count := s.credit.count - 1 } }

/-- REFILL (R94). -/
def execRefill (s : State) : Host.Outcome State Fault Refusal := s.live State.refill

end Sys2Proof.Machine
end

