-- ==== Sys2Proof/Machine/Refresh.lean ====
section
/-! DEFINITION. The refresh engine (chapter 7): pointer steps, retirement, the interval timer's expiry and the end
of conditioning. -/

namespace Sys2Proof.Machine

/-- The pointer steps to the next group; the step from group 128 is the wrap, which toggles the parity (R115). -/
def Account.stepPointer (a : Account) : Account :=
  if a.pointer < 128 then { a with pointer := a.pointer + 1 } else { a with pointer := 0, oddPass := !a.oddPass }

/-- One unit of the debt is paid and the pointer steps (R117, R119). -/
def Account.pay (a : Account) : Account := { a.stepPointer with debt := a.debt - 1 }

/-- The bank may retire the group at its pointer: a positive debt and an unretained group (R119). -/
def State.mayRetire (s : State) (b : BankId) : Bool := s.owed b && !s.pointerNeedsRefresh b

/-- One retirement. The rows of a group retired under class OFF become undefined; under HALF they are kept
(R68, R119). -/
def State.retireOne (s : State) (b : BankId) : State :=
  let g := (s.account b).pointer
  let t := s.modAccount b Account.pay
  if classOf s.regions b g = .off then { t with dram := t.dram.forgetGroup b g } else t

/-- Up to `fuel` retirements, as long as one may be made. -/
def State.retireUpTo (b : BankId) : Nat → State → State
  | 0, s => s
  | fuel + 1, s => if s.mayRetire b then State.retireUpTo b fuel (s.retireOne b) else s

/-- The retirement check of a bank (R119). Each retirement lowers a positive debt by one, so the debt bounds their
number. -/
def State.retirementCheck (s : State) (b : BankId) : State := s.retireUpTo b (s.account b).debt.toNat

/-- An expiry at bank `b`: the debt rises by one, with the critical suspension and PREEMPT at a rise to 8; a debt
that stands at 8 stays and REFRESH_OVERRUN is posted (R112, R114, R123). -/
def State.expiryAt (s : State) (b : BankId) : State :=
  if (s.account b).debt < 8 then
    let t := s.modAccount b fun a => { a with debt := a.debt + 1 }
    if t.critical b then (t.suspendBank b).post .preempt (.bank b) none (s.activeOn b) else t
  else s.post .refreshOverrun (.bank b) none (s.account b).pointer

/-- The expiry of the interval timer: the banks in ascending number, then the retirement checks; the elapsed count
returns to 0 (R112). -/
def State.takeExpiry (s : State) : State :=
  let t := allBanks.foldl State.expiryAt s
  let u := allBanks.foldl State.retirementCheck t
  { u with refresh := { u.refresh with elapsed := 0 } }

/-- The interval timer has reached REFRESH_INTERVAL in a state in which it runs (R112). -/
def State.expiryDue (s : State) : Bool := s.mode.sched.running && s.runPage.refreshInterval ≤ s.refresh.elapsed

/-- INTERVAL_EXPIRY (R112). Where the timer has not reached its interval the happening does not occur (log 4). -/
def State.intervalExpiry (s : State) : State := if s.expiryDue then s.takeExpiry else s

/-- The end of conditioning: debts, pointers and parities reset, the interval timer starts, the scheduler passes to
RUN and INIT_DONE is posted (R128). Every row's contents are undefined at the end of INIT (R127). -/
def State.endConditioning (s : State) : State :=
  let t := { s with refresh := .powerOn, dram := [], history := .powerOn }
  (t.setSched .run).post .initDone .none none 0

/-- INTERVAL_EXPIRY (R112). -/
def execIntervalExpiry (s : State) : Host.Outcome State Fault Refusal := s.live State.intervalExpiry

end Sys2Proof.Machine
end

