-- ==== Sys2Proof/Machine/Mode.lean ====
section
/-! DEFINITION. Mode control (chapter 8): the scheduler-level commands, the page flip, drain completion, and
SOFT_RESET. -/

namespace Sys2Proof.Machine

/-! ### Starting, holding, resuming (R140 to R142) -/

/-- START (R140). -/
def State.start (s : State) : State :=
  match s.mode.sched with
  | .stopped =>
    let t := s.setSched .init
    { t with refresh := { t.refresh with conditioning := .clearing } }.setResult .ok
  | _ => s.setResult .wrongState

/-- HOLD; a drain that is already complete completes in the same happening (R141). -/
def State.hold (s : State) : State :=
  match s.mode.sched with
  | .run => (s.setSched .drainHold).settleDrain.setResult .ok
  | .drainSwitch _ => s.setResult .busy
  | _ => s.setResult .wrongState

/-- RESUME (R142). -/
def State.resume (s : State) : State :=
  match s.mode.sched with
  | .held => (s.setSched .run).setResult .ok
  | .drainHold => (s.setSched .run).setResult .ok
  | _ => s.setResult .wrongState

/-! ### Switching pages (R136, R143, R144, R147) -/

/-- The lowest-numbered enabled port that the page's wheel does not name (R136, check 4). -/
def State.missingPort (s : State) (page : Page) : Option PortId :=
  allPorts.find? fun p => (s.ports.get p).enabled && !page.owners.contains (.port p)

/-- The detail code of the first validation check that fails, 0 where the page passes (R136). -/
def State.validationDetail (s : State) (page : Page) : Nat :=
  if page.rowMin < page.openDelay + 1 then 1
  else if page.refreshInterval < 4 * page.refreshTime then 2
  else if !page.owners.any (fun o => o == .refresh || o == .free) then 3
  else
    match s.missingPort page with
    | some p => 4 + p.val
    | none => 0

/-- What a flip does in either place: the selector toggles, the wheel position is 0, the credit count is clamped and
the refill timer restarts (R144, R147). -/
def State.flipPages (s : State) : State :=
  let t := { s with
    mode := { s.mode with runSelect := s.editSelect }
    arbiter := { s.arbiter with wheelPosition := 0 } }
  t.clampCredit

/-- SWITCH_DONE with the run selector as detail (R153). -/
def State.postSwitchDone (s : State) : State := s.post .switchDone .none none s.mode.runSelect.val

/-- The scheduler state a return state names (R138). -/
def ReturnState.sched : ReturnState → SchedState
  | .run => .run
  | .held => .held

/-- The flip of a pending switch (R147). The interval timer keeps its count; a count that has reached the new
interval expires in the flip's window, its posts ahead of SWITCH_DONE (R131, R153). -/
def State.takeFlip (s : State) (ret : ReturnState) : State :=
  let t := s.flipPages
  let u := if t.runPage.refreshInterval ≤ t.refresh.elapsed then t.takeExpiry else t
  (u.setSched ret.sched).postSwitchDone

/-- The wheel position stands at 0 by the step of a decision, and the wrap is handed to mode control (R91). -/
def State.handWrap (s : State) : State := { s with arbiter := { s.arbiter with wheelPosition := 0, wrapHanded := true } }

/-- Mode control's test of a wheel wrap handed to it: in DRAIN_SWITCH with the drain complete the flip is made; otherwise
the switch waits for the next wrap (R146). Where no wrap has been handed, there is nothing to test: a position that a
reset or a flip has set to 0 is no wrap (R92). -/
def State.testWrap (s : State) : State :=
  if s.arbiter.wrapHanded then
    let t := { s with arbiter := { s.arbiter with wrapHanded := false } }
    match s.mode.sched with
    | .drainSwitch ret => if s.drained then t.takeFlip ret else t
    | _ => t
  else s

/-- A validated SWITCH is taken from RUN or HELD (R143). -/
def State.beginSwitch (s : State) (ret : ReturnState) : State :=
  match s.validationDetail s.editPage with
  | 0 => (s.setSched (.drainSwitch ret)).setResult .ok
  | d => { s with host := { s.host with result := .pageInvalid, detail := d } }

/-- A SWITCH in STOPPED, validated, flips at once (R144). -/
def State.switchStopped (s : State) : State :=
  match s.validationDetail s.editPage with
  | 0 => s.flipPages.postSwitchDone.setResult .ok
  | d => { s with host := { s.host with result := .pageInvalid, detail := d } }

/-- SWITCH (R143, R144). -/
def State.switch (s : State) : State :=
  match s.mode.sched with
  | .stopped => s.switchStopped
  | .init => s.setResult .wrongState
  | .run => s.beginSwitch .run
  | .held => s.beginSwitch .held
  | .drainHold => s.setResult .busy
  | .drainSwitch _ => s.setResult .busy

/-- PAGE_COPY (R135). -/
def State.pageCopy (s : State) : State :=
  match s.mode.sched with
  | .drainSwitch _ => s.setResult .busy
  | _ => { s with mode := { s.mode with pages := put s.mode.pages s.editSelect s.runPage } }.setResult .ok

/-! ### Drain completion and flip as happenings of their own (log 6) -/

/-- FLIP: mode control's test of a wheel wrap that has been handed and not yet tested (R146, R147). -/
def State.flip (s : State) : State := s.testWrap

/-! ### SOFT_RESET (R149 to R151) -/

/-- SOFT_RESET in STOPPED or INIT: the values of R150. In STOPPED the contents of the DRAM are undefined (R12). -/
def State.softResetIdle (s : State) : State :=
  { s with
    ports := s.ports.map fun k => { k with queue := [] }
    hostQueue := []
    stamp := 0
    regions := s.regions.map fun e => { e with refCount := 0 }
    banks := Vector.replicate 4 .powerOn
    refresh := .powerOn
    credit := s.softResetCredit
    arbiter := { wheelPosition := 0, pointer := .port 0, wrapHanded := false }
    mode := { s.mode with sched := .stopped }
    events := { s.events with records := [] }
    dram := []
    history := .powerOn }

/-- A bank OPENING or OPEN is marked close pending (R88). -/
def Bank.markClosePending (k : Bank) : Bank := if k.openRow?.isSome then { k with closePending := true } else k

/-- SOFT_RESET in RUN, DRAIN_HOLD, DRAIN_SWITCH or HELD (R151). -/
def State.softResetRunning (s : State) : State :=
  let t := (allPorts.foldl State.flushPort s).flushHost
  { t with
    banks := t.banks.map Bank.markClosePending
    arbiter := { t.arbiter with wheelPosition := 0, wrapHanded := false }
    refresh := { t.refresh with conditioning := .idle }
    events := { t.events with records := [] }
    mode := { t.mode with sched := .held } }

/-- SOFT_RESET (R149). -/
def State.softReset (s : State) : State :=
  match s.mode.sched with
  | .stopped => s.softResetIdle.setResult .ok
  | .init => s.softResetIdle.setResult .ok
  | _ => s.softResetRunning.setResult .ok

/-! ### The rows -/

/-- START (R140). -/
def execStart (s : State) : Host.Outcome State Fault Refusal := s.live State.start

/-- HOLD (R141). -/
def execHold (s : State) : Host.Outcome State Fault Refusal := s.live State.hold

/-- RESUME (R142). -/
def execResume (s : State) : Host.Outcome State Fault Refusal := s.live State.resume

/-- SWITCH (R143, R144). -/
def execSwitch (s : State) (inNextWindow : Bool := false) : Host.Outcome State Fault Refusal :=
  s.live fun s => (s.inWindow inNextWindow).switch

/-- PAGE_COPY (R135). -/
def execPageCopy (s : State) : Host.Outcome State Fault Refusal := s.live State.pageCopy

/-- SOFT_RESET (R149). -/
def execSoftReset (s : State) (inNextWindow : Bool := false) : Host.Outcome State Fault Refusal :=
  s.live fun s => (s.inWindow inNextWindow).softReset

/-- DRAIN_COMPLETE (R145, log 6). -/
def execDrainComplete (s : State) : Host.Outcome State Fault Refusal := s.live State.settleDrain

/-- FLIP (R147, log 6). -/
def execFlip (s : State) : Host.Outcome State Fault Refusal := s.live State.flip

end Sys2Proof.Machine
end

