-- ==== Sys2Proof/Machine/Ports.lean ====
section
/-! DEFINITION. The port control register's actions (R28, R29, R164) and the ports' PRST lines (R30 to R33). -/

namespace Sys2Proof.Machine

/-- Every write to port control sets the port select (R164). -/
def State.selectPort (s : State) (p : PortId) : State := { s with host := { s.host with portSelect := p } }

/-- The enable setting is written to enabled (R28). -/
def State.enablePort (s : State) (p : PortId) : State := s.modPort p fun k => { k with enabled := true }

/-- The enable setting is written to disabled: an ENABLED port is flushed first (R29). A DISABLED port and a port
IN_RESET are not. -/
def State.disablePort (s : State) (p : PortId) : State :=
  match (s.ports.get p).state with
  | .enabled => ((s.flushPort p).modPort p fun k => { k with enabled := false }).settleDrain
  | _ => s.modPort p fun k => { k with enabled := false }

/-- PRST is asserted: an ENABLED or DISABLED port enters IN_RESET and its records finish silently (R30). A port whose
PRST is asserted already is in reset and stays so (R31). -/
def State.assertPrst (s : State) (p : PortId) : State :=
  match (s.ports.get p).state with
  | .inReset => s
  | _ => ((s.silencePort p).modPort p fun k => { k with prst := true }).settleDrain

/-- PRST is deasserted: the port leaves IN_RESET for the state its enable setting names (R32). -/
def State.deassertPrst (s : State) (p : PortId) : State := s.modPort p fun k => { k with prst := false }

/-- PORT_ENABLE (R28). -/
def execPortEnable (p : PortId) (s : State) : Host.Outcome State Fault Refusal :=
  s.live fun s => (s.selectPort p).enablePort p

/-- PORT_DISABLE, its DONE notices in the window of the write (R29). -/
def execPortDisable (p : PortId) (s : State) (inNextWindow : Bool := false) : Host.Outcome State Fault Refusal :=
  s.live fun s => ((s.inWindow inNextWindow).selectPort p).disablePort p

/-- PORT_SELECT (R164). -/
def execPortSelect (p : PortId) (s : State) : Host.Outcome State Fault Refusal := s.live fun s => s.selectPort p

/-- PRST_ASSERT (R30). The line is the client's: it is followed while RESET is asserted too, when no record is
outstanding (R13, R34). -/
def execPrstAssert (p : PortId) (s : State) : Host.Outcome State Fault Refusal := .next (s.assertPrst p)

/-- PRST_DEASSERT (R32). The line is followed while RESET is asserted too (R13). -/
def execPrstDeassert (p : PortId) (s : State) : Host.Outcome State Fault Refusal := .next (s.deassertPrst p)

end Sys2Proof.Machine
end

