-- ==== Sys2Proof/Machine/Admission.lean ====
section
/-! DEFINITION. Admission of new requests (chapter 3) and the client link's inbound frames (chapter 2). -/

namespace Sys2Proof.Machine

/-! ### The checks -/

/-- The region table's answer for a new request (R60). -/
inductive Lookup where
  | noRegion
  | parked (i : Fin 16)
  | denied (i : Fin 16)
  | granted (i : Fin 16)
  deriving DecidableEq, Repr

/-- The lookup of a bank and logical row for a requester and a kind (R60). -/
def lookup (t : Vector Region 16) (who : Requester) (kind : Kind) (b : BankId) (row : Fin 2048) : Lookup :=
  match coveringRegion t b (groupOf row) with
  | none => .noRegion
  | some i =>
    if (t.get i).cls = .off then .parked i
    else if (t.get i).permits who kind then .granted i
    else .denied i

/-- The checks NOT_RUNNING and HELD (R36 to R38). HELD never refuses a host request (R37). -/
def schedRefusal (who : Requester) (st : SchedState) : Option Reason :=
  match st with
  | .stopped => some .notRunning
  | .init => some .notRunning
  | .run => none
  | .drainHold => if who = .host then none else some .held
  | .drainSwitch .run => none
  | .drainSwitch .held => if who = .host then none else some .held
  | .held => if who = .host then none else some .held

/-- Checks 2 to 6 of a client request on an ENABLED port (R36). -/
def State.clientRefusal (s : State) (p : PortId) (r : RequestFields) : Option Reason :=
  match schedRefusal (.port p) s.mode.sched with
  | some reason => some reason
  | none =>
    if (s.ports.get p).queue.any (fun q => q.tag == r.tag) then some .dupTag
    else if 8 ≤ (s.ports.get p).queue.length then some .queueFull
    else if 64 < r.firstBurst.val + r.length then some .rowSpan
    else none

/-! ### Filing (R39, R41) -/

/-- The record of a client request at filing (R41). -/
def clientRecord (p : PortId) (r : RequestFields) (region : Fin 16) (stamp : Nat) : Record where
  origin := .port p
  tag := r.tag
  kind := r.kind
  bank := r.bank
  row := r.row
  firstBurst := r.firstBurst
  word := none
  length := r.length
  region := region
  stamp := stamp
  state := .queued
  burstsDone := 0
  age := 0
  preempted := false
  data := none

/-- A request takes the next stamp and its region's reference count rises by one (R39). -/
def State.takeStamp (s : State) (region : Fin 16) : State :=
  { s.modRegion region fun e => { e with refCount := e.refCount + 1 } with stamp := s.stamp + 1 }

/-- A client request is filed at the tail of its port's queue and ACCEPT is sent (R39). -/
def State.fileClient (s : State) (p : PortId) (r : RequestFields) (region : Fin 16) : State :=
  ((s.takeStamp region).modPort p fun k =>
    { k with queue := k.queue ++ [clientRecord p r region s.stamp] }).notify p (.accept r.tag)

/-- ACCESS_DENIED for a refusal of the region checks (R36, R38, R153). -/
def State.postDenied (s : State) (who : Requester) (tag : Fin 16) (source : Source) (reason : Reason) : State :=
  s.post .accessDenied source (some tag) (deniedDetail who reason)

/-- A REQUEST taken on an ENABLED port: the checks in order, then a REFUSE or the filing (R16, R36). -/
def State.admitClient (s : State) (p : PortId) (r : RequestFields) : State :=
  match s.clientRefusal p r with
  | some reason => s.notify p (.refuse r.tag reason)
  | none =>
    match lookup s.regions (.port p) r.kind r.bank r.row with
    | .granted i => s.fileClient p r i
    | .noRegion => (s.postDenied (.port p) r.tag .none .noRegion).notify p (.refuse r.tag .noRegion)
    | .parked i => (s.postDenied (.port p) r.tag (.region i) .parked).notify p (.refuse r.tag .parked)
    | .denied i => (s.postDenied (.port p) r.tag (.region i) .denied).notify p (.refuse r.tag .denied)

/-! ### Inbound frames (R15 to R18, R174) -/

/-- A CANCEL taken on an ENABLED port: the outstanding record with the tag finishes CANCELLED; where no record
carries it, nothing happens (R18). -/
def State.cancelTag (s : State) (p : PortId) (tag : Fin 16) : State :=
  match (s.ports.get p).queue.find? fun q => q.tag == tag with
  | some r => (s.finishClient p r .cancelled).settleDrain
  | none => s

/-- A frame is discarded with PROTOCOL_ERROR, its kind code as detail (R17). -/
def State.discardFrame (s : State) (p : PortId) (code : Byte) : State :=
  s.post .protocolError (.port p) none code.toNat

/-- The port takes a message in this window (R15). -/
def State.markTaken (s : State) (p : PortId) : State := s.modPort p fun k => { k with messageTaken := true }

/-- A message taken as the first of its window in ENABLED or DISABLED (R15 to R18). A short frame carries no message
(R174, log 11). -/
def State.takeMessage (s : State) (p : PortId) (enabled : Bool) : Frame → State
  | .request r =>
    if enabled then (s.markTaken p).admitClient p r else (s.markTaken p).notify p (.refuse r.tag .portDisabled)
  | .cancel tag => if enabled then (s.markTaken p).cancelTag p tag else s.markTaken p
  | .unknown code => (s.markTaken p).discardFrame p code
  | .short code => s.discardFrame p code

/-- A frame arrives whole on a port. Its bytes and the port's state decide what becomes of it (R15, R17, log 10). -/
def State.takeFrame (s : State) (p : PortId) (frame : List Byte) : State :=
  match (s.ports.get p).state with
  | .inReset => s
  | .enabled =>
    if (s.ports.get p).messageTaken then s.discardFrame p (frameCode frame) else s.takeMessage p true (parseFrame frame)
  | .disabled =>
    if (s.ports.get p).messageTaken then s.discardFrame p (frameCode frame) else s.takeMessage p false (parseFrame frame)

/-- The state in which a frame arrives: a window that the sender says has begun since the last decision begins
(R15, log 2). -/
def State.atArrival (s : State) (a : Arrival) : State := s.inWindow a.inNextWindow

/-- A frame arrives. One that PRST met is discarded with no notice and no event (R15, R32, log 31). -/
def State.receive (s : State) (p : PortId) (a : Arrival) : State :=
  if a.metPrst then s.atArrival a else (s.atArrival a).takeFrame p a.bytes

/-- REQUEST (R16). -/
def execRequest (p : PortId) (frame : Arrival) (s : State) : Host.Outcome State Fault Refusal :=
  s.live fun s => s.receive p frame

/-- CANCEL (R18). -/
def execCancel (p : PortId) (frame : Arrival) (s : State) : Host.Outcome State Fault Refusal :=
  s.live fun s => s.receive p frame

/-- DISCARDED_FRAME (R17). -/
def execDiscardedFrame (p : PortId) (frame : Arrival) (s : State) : Host.Outcome State Fault Refusal :=
  s.live fun s => s.receive p frame

end Sys2Proof.Machine
end

