-- ==== Sys2Proof/Machine/Slots.lean ====
section
/-! DEFINITION. The host access slots (R38, R169 to R171): GO READ, GO WRITE and ACK. -/

namespace Sys2Proof.Machine

/-- The record of a host request at filing: the fields of R3 from the captured word address, the slot number as tag,
length 1 (R38, R41). -/
def hostRecord (k : SlotId) (kind : Kind) (a : Nat) (data : Word) (region : Fin 16) (stamp : Nat) : Record where
  origin := .slot k
  tag := ⟨k.val, by omega⟩
  kind := kind
  bank := addrBank a
  row := addrRow a
  firstBurst := addrBurst a
  word := some (addrWord a)
  length := 1
  region := region
  stamp := stamp
  state := .queued
  burstsDone := 0
  age := 0
  preempted := false
  data := if kind = .write then some data else none

/-- The slot becomes FAILED with a reason (R38, R169). -/
def State.failSlot (s : State) (k : SlotId) (reason : Reason) : State :=
  s.modSlot k fun e => { e with state := .failed reason }

/-- The slot becomes QUEUED and its record joins the tail of the host queue (R38, R39). -/
def State.fileHost (s : State) (k : SlotId) (kind : Kind) (region : Fin 16) : State :=
  let e := s.host.slots.get k
  let t := (s.takeStamp region).modSlot k fun e => { e with state := .queued }
  { t with hostQueue := t.hostQueue ++ [hostRecord k kind e.address e.data region s.stamp] }

/-- The admission of a host request from the slot's captured fields (R38). -/
def State.admitHost (s : State) (k : SlotId) (kind : Kind) : State :=
  let a := (s.host.slots.get k).address
  match schedRefusal .host s.mode.sched with
  | some reason => s.failSlot k reason
  | none =>
    match lookup s.regions .host kind (addrBank a) (addrRow a) with
    | .granted i => s.fileHost k kind i
    | .noRegion => (s.postDenied .host ⟨k.val, by omega⟩ .none .noRegion).failSlot k .noRegion
    | .parked i => (s.postDenied .host ⟨k.val, by omega⟩ (.region i) .parked).failSlot k .parked
    | .denied i => (s.postDenied .host ⟨k.val, by omega⟩ (.region i) .denied).failSlot k .denied

/-- A GO: submitted from a FREE slot with status OK in both outcomes, ignored with BUSY otherwise (R169). -/
def State.go (s : State) (k : SlotId) (kind : Kind) : State :=
  match (s.host.slots.get k).state with
  | .free => ((s.modSlot k fun e => { e with kind := kind }).admitHost k kind).setResult .ok
  | _ => s.setResult .busy

/-- An ACK (R169). -/
def State.ackSlot (s : State) (k : SlotId) : State :=
  match (s.host.slots.get k).state with
  | .free => s.setResult .nothing
  | .queued => s.setResult .busy
  | .done => (s.modSlot k fun e => { e with state := .free }).setResult .ok
  | .failed _ => (s.modSlot k fun e => { e with state := .free }).setResult .ok

/-- GO_READ (R169). -/
def execGoRead (k : SlotId) (s : State) : Host.Outcome State Fault Refusal := s.live fun s => s.go k .read

/-- GO_WRITE (R169). -/
def execGoWrite (k : SlotId) (s : State) : Host.Outcome State Fault Refusal := s.live fun s => s.go k .write

/-- ACK (R169). -/
def execAck (k : SlotId) (s : State) : Host.Outcome State Fault Refusal := s.live fun s => s.ackSlot k

end Sys2Proof.Machine
end

