-- ==== Sys2Proof/Machine/Tables.lean ====
section
/-! DEFINITION. TABLE_WRITE: the commits to the region table (R63 to R66), the remap table (R9 to R11) and the edit
page (R134). -/

namespace Sys2Proof.Machine

/-! ### Region commits -/

/-- The staged region entry as a checked entry of class `cls`; the reference count is kept (R66). -/
def StagedRegion.toRegion (g : StagedRegion) (cls : RefreshClass) (refCount : Nat) : Region where
  enabled := g.enabled
  bank := g.bank
  firstGroup := g.firstGroup
  groupCount := g.groupCount
  readPermit := g.readPermit
  writePermit := g.writePermit
  cls := cls
  refCount := refCount

/-- The staged range is one the table can hold (R63, order 1). -/
def StagedRegion.rangeValid (g : StagedRegion) : Bool :=
  g.firstGroup ≤ 127 && 1 ≤ g.groupCount && g.groupCount ≤ 128 && g.firstGroup + g.groupCount ≤ 128

/-- The staged entry is enabled and meets another enabled entry of its bank (R64). -/
def StagedRegion.overlapsOther (t : Vector Region 16) (i : Fin 16) (g : StagedRegion) : Bool :=
  g.enabled && allRegions.any fun j =>
    j != i && (t.get j).enabled && (t.get j).bank == g.bank &&
      rangesIntersect g.firstGroup g.groupCount (t.get j).firstGroup (t.get j).groupCount

/-- The commit would take an entry in use from its requests (R65). -/
def StagedRegion.busy (e : Region) (g : StagedRegion) (cls : RefreshClass) : Bool :=
  e.refCount != 0 &&
    (!g.enabled || g.bank != e.bank || g.firstGroup != e.firstGroup || g.groupCount != e.groupCount || cls == .off)

/-- The class of some group of bank `b` differs between two tables (R66). -/
def classChanged (old new : Vector Region 16) (b : BankId) : Bool :=
  (List.range 129).any fun g => classOf old b g != classOf new b g

/-- A commit of `new` over the entry `old` wakes the old entry's rows from OFF: the class changes to RETAIN or HALF, or the
entry is disabled (R68). An entry that stays enabled under OFF and is moved or resized wakes none: the groups it gives up
without their retirement are refreshed as their class decides (R68's table, R121). -/
def Region.wakes (old new : Region) : Bool := old.cls == .off && !(new.enabled && new.cls == .off)

/-- An accepted region commit: the entry is replaced, the rows of an entry woken from OFF become undefined, whether or not
the pointer has passed them (R68, 11.7), and each bank with a reclassified group gets a retirement check (R66). DEDUCED
(log 32): where the commit leaves unretained the group at the pointer of a critical bank, the check retires it at once as
R119 and R120 give; R124 and R125 say that a critical bank retires nothing before its REFRESH, for a pointer whose group
needs one, and R113 has either order of such a commit and an expiry end with the same debt, where at debt 8 the check first
makes room for the expiry's unit and the expiry first drops it
(log 32 names the other case in which the orders differ). -/
def State.commitRegion (s : State) (i : Fin 16) (e : Region) : State :=
  let old := s.regions.get i
  let t := s.modRegion i fun _ => e
  let u := { t with dram := t.dram.forgetGroups fun b g => old.wakes e && old.covers b g }
  allBanks.foldl (fun u b => if classChanged s.regions t.regions b then u.retirementCheck b else u) u

/-- TABLE_WRITE with the region table selected (R63). -/
def State.writeRegion (s : State) : State :=
  let g := stagedRegion s.host.stage
  if h : s.host.tableIndex.toNat ≤ 15 then
    let i : Fin 16 := ⟨s.host.tableIndex.toNat, by omega⟩
    match RefreshClass.ofCode g.clsCode with
    | none => s.setResult .badValue
    | some cls =>
      if !g.rangeValid then s.setResult .badValue
      else if g.overlapsOther s.regions i then s.setResult .overlap
      else if g.busy (s.regions.get i) cls then s.setResult .regionBusy
      else (s.commitRegion i (g.toRegion cls (s.regions.get i).refCount)).setResult .ok
  else s.setResult .badValue

/-! ### Remap commits -/

/-- A valid entry other than `i` that meets `f` (R10). -/
def otherRemap (t : Vector RemapEntry 8) (i : Fin 8) (f : RemapEntry → Bool) : Bool :=
  allRemap.any fun j => j != i && (t.get j).valid && f (t.get j)

/-- The bank is OPENING or OPEN with `row` as its logical open row (R10, R11). -/
def State.rowHeldOpen (s : State) (b : BankId) (row : Fin 2048) : Bool := (s.banks.get b).openRow? == some row

/-- The checks of an add or a replacement (R10). -/
def State.addRefusal (s : State) (i : Fin 8) (e : RemapEntry) : Option Result :=
  if otherRemap s.remap i fun o => o.bank == e.bank && o.faultyRow == e.faultyRow then some .duplicate
  else if otherRemap s.remap i fun o => o.bank == e.bank && o.spare == e.spare then some .spareInUse
  else if s.rowHeldOpen e.bank e.faultyRow then some .rowOpen
  else none

/-- The check of a removal and of a replacement's current fields (R11). -/
def State.removeRefusal (s : State) (old : RemapEntry) : Option Result :=
  if s.rowHeldOpen old.bank old.faultyRow then some .rowOpen else none

/-- What refuses an edit, by its class (R9). -/
def State.remapRefusal (s : State) (i : Fin 8) (e : RemapEntry) : Option Result :=
  let old := s.remap.get i
  if !old.valid && !e.valid then none
  else if !old.valid then s.addRefusal i e
  else if !e.valid then s.removeRefusal old
  else if e = old then none
  else
    match s.addRefusal i e with
    | some r => some r
    | none => s.removeRefusal old

/-- The scheduler state lets remap edits through: STOPPED or HELD (R9, order 1). -/
def SchedState.remapEditable : SchedState → Bool
  | .stopped => true
  | .held => true
  | _ => false

/-- What an accepted edit stores: the staged fields. A removal leaves the entry invalid; whether its other fields are
then the staged ones (R9) or the entry's own (R11) is open, since the two rules disagree (log 20). -/
def remapStored (old staged : RemapEntry) : RemapEntry :=
  if old.valid && !staged.valid then
    { (if Config.removalStoresStaged then staged else old) with valid := false }
  else staged

/-- An entry gives back its faulty row, by a removal or by a replacement that names another row (R12). DESIGN CHOICE (log 30):
the row's own contents are undefined where its group has had no REFRESH under RETAIN or HALF since the entry was added. -/
def State.returnRow (s : State) (i : Fin 8) (e : RemapEntry) : State :=
  { s with
    dram := if s.history.unrefreshed.get i then s.dram.forgetRow e.bank e.faultyRow.val else s.dram
    history := { s.history with unrefreshed := put s.history.unrefreshed i false } }

/-- An entry leaves its spare row, whose contents are in doubt until the next REFRESH of group 128 (R12, log 30). -/
def State.leaveSpare (s : State) (e : RemapEntry) : State :=
  { s with
    history := { s.history with freed := put s.history.freed e.bank (put (s.history.freed.get e.bank) e.spare true) } }

/-- An entry takes its spare row (R12). DESIGN CHOICE (log 30): the contents of a spare that an entry has left are undefined
where group 128 has had no REFRESH since, as R12's first bullet says; R12's last paragraph has the contents of a free spare
last for as long as the part stays out of STOPPED. -/
def State.takeSpare (s : State) (e : RemapEntry) : State :=
  { s with
    dram := if (s.history.freed.get e.bank).get e.spare then s.dram.forgetRow e.bank (2048 + e.spare.val) else s.dram
    history := { s.history with freed := put s.history.freed e.bank (put (s.history.freed.get e.bank) e.spare false) } }

/-- The entry begins to stand in for its faulty row: what the row holds lasts if its group is refreshed (R12). -/
def State.coverRow (s : State) (i : Fin 8) : State :=
  { s with history := { s.history with unrefreshed := put s.history.unrefreshed i true } }

/-- An entry leaves both its rows (R12). -/
def State.leaveRows (s : State) (i : Fin 8) (e : RemapEntry) : State := (s.returnRow i e).leaveSpare e

/-- An entry takes both its rows (R12). -/
def State.takeRows (s : State) (i : Fin 8) (e : RemapEntry) : State := (s.takeSpare e).coverRow i

/-- Both entries are valid and stand in for the same faulty row. -/
def RemapEntry.sameRow (old new : RemapEntry) : Bool :=
  old.valid && new.valid && old.bank == new.bank && old.faultyRow == new.faultyRow

/-- What an accepted edit does to rows: a removal leaves them, an add takes them, a replacement does the one and then the
other; a store does neither. A replacement that keeps the bank and the faulty row touches the two spares alone: the faulty
row stays covered, with what it has held since the add (R9, R12). -/
def State.editRows (s : State) (i : Fin 8) (e : RemapEntry) : State :=
  let old := s.remap.get i
  if old.valid && e = old then s
  else if old.sameRow e then (s.leaveSpare old).takeSpare e
  else
    let t := if old.valid then s.leaveRows i old else s
    if e.valid then t.takeRows i e else t

/-- TABLE_WRITE with the remap table selected (R9). -/
def State.writeRemap (s : State) : State :=
  let g := stagedRemap s.host.stage
  if !s.mode.sched.remapEditable then s.setResult .notHeld
  else if h : s.host.tableIndex.toNat ≤ 7 ∧ g.faultyRow ≤ 2047 then
    let i : Fin 8 := ⟨s.host.tableIndex.toNat, by omega⟩
    let e : RemapEntry := { valid := g.valid, bank := g.bank, faultyRow := ⟨g.faultyRow, by omega⟩, spare := g.spare }
    match s.remapRefusal i e with
    | some r => s.setResult r
    | none => { s.editRows i e with remap := put s.remap i (remapStored (s.remap.get i) e) }.setResult .ok
  else s.setResult .badValue

/-! ### Page fields -/

/-- TABLE_WRITE with a page selected (R134). Table select 3 names the run page. -/
def State.writePage (s : State) : State :=
  match s.mode.sched with
  | .drainSwitch _ => s.setResult .busy
  | _ =>
    if s.host.tableSelect = 3 then s.setResult .badValue
    else
      match s.editPage.withField s.host.tableIndex.toNat (s.host.stage.get 0).toNat with
      | none => s.setResult .badValue
      | some page => { s with mode := { s.mode with pages := put s.mode.pages s.editSelect page } }.setResult .ok

/-! ### The command -/

/-- TABLE_WRITE commits the stage to the object that table select and table index name at the moment it is taken
(R166). -/
def State.tableWrite (s : State) : State :=
  if s.host.tableSelect = 0 then s.writeRegion
  else if s.host.tableSelect = 1 then s.writeRemap
  else s.writePage

/-- TABLE_WRITE_REGION (R63). The table select decides which table the command reaches (R166, log 12). -/
def execTableWriteRegion (s : State) : Host.Outcome State Fault Refusal := s.live State.tableWrite

/-- TABLE_WRITE_REMAP (R9). The table select decides which table the command reaches (R166, log 12). -/
def execTableWriteRemap (s : State) : Host.Outcome State Fault Refusal := s.live State.tableWrite

/-- TABLE_WRITE_PAGE (R134). The table select decides which table the command reaches (R166, log 12). -/
def execTableWritePage (s : State) : Host.Outcome State Fault Refusal := s.live State.tableWrite

end Sys2Proof.Machine
end

