-- ==== Sys2Proof/Machine/Host.lean ====
section
/-! DEFINITION. The host's register window (chapter 10): what a write to each register does (`State.hostWrite`), what a
read shows (`State.hostRead`), and the rows that write registers of the host interface itself. -/

namespace Sys2Proof.Machine

/-! ### Writes -/

/-- EVENT_POP (R157). -/
def State.eventPop (s : State) : State :=
  match s.events.records with
  | [] => s.setResult .nothing
  | _ :: rest => { s with events := { s.events with records := rest } }.setResult .ok

/-- A write to the command register: code 1 to 8 gives the named command, any other is refused BAD_VALUE (R163,
R165). -/
def State.commandWrite (s : State) (code : Nat) : State :=
  match code with
  | 1 => s.start
  | 2 => s.hold
  | 3 => s.resume
  | 4 => s.switch
  | 5 => s.pageCopy
  | 6 => s.softReset
  | 7 => s.tableWrite
  | 8 => s.eventPop
  | _ => s.setResult .badValue

/-- A write to port control: the select in every case, then action 1 enable, 2 disable, 0 or 3 none (R163, R164). -/
def State.portControlWrite (s : State) (p : PortId) (action : Nat) : State :=
  match action with
  | 1 => (s.selectPort p).enablePort p
  | 2 => (s.selectPort p).disablePort p
  | _ => s.selectPort p

/-- A write to bank status: the bank select and the view (R164). -/
def State.selectBank (s : State) (b : BankId) (view : Fin 4) : State :=
  { s with host := { s.host with bankSelect := b, view := view } }

/-- A write to the interrupt enables (R172). INT is computed from them. -/
def State.writeEnables (s : State) (enables : BitVec 4) : State :=
  { s with host := { s.host with slotEnables := enables } }

/-- A write to the event enable register replaces all eight settings; records stored are left (R154). -/
def State.writeMask (s : State) (mask : BitVec 8) : State := { s with events := { s.events with mask := mask } }

/-- A write to a slot's control register: 0 is ignored and leaves the command status (R163, R169). -/
def State.slotControlWrite (s : State) (k : SlotId) (command : Nat) : State :=
  match command with
  | 1 => s.go k .read
  | 2 => s.go k .write
  | 3 => s.ackSlot k
  | _ => s

/-- A write to table data word `i` fills that word of the stage (R166). -/
def State.writeStage (s : State) (i : Fin 3) (w : Word) : State :=
  { s with host := { s.host with stage := put s.host.stage i w } }

/-- A host write to the register at word address `a` (R162, R163). Read-only registers ignore it. -/
def State.hostWrite (s : State) (a : BitVec 5) (w : Word) : State :=
  match a.toNat with
  | 0x00 => s.commandWrite (bits w.toNat 3 0)
  | 0x02 => s.portControlWrite ⟨bits w.toNat 1 0, by unfold bits; omega⟩ (bits w.toNat 5 4)
  | 0x03 => s.writeEnables (BitVec.ofNat 4 (bits w.toNat 3 0))
  | 0x04 => s.writeMask (BitVec.ofNat 8 (bits w.toNat 7 0))
  | 0x09 => { s with host := { s.host with tableSelect := BitVec.ofNat 2 (bits w.toNat 1 0) } }
  | 0x0A => { s with host := { s.host with tableIndex := BitVec.ofNat 8 (bits w.toNat 7 0) } }
  | 0x0B => s.writeStage 0 w
  | 0x0C => s.writeStage 1 w
  | 0x0D => s.writeStage 2 w
  | 0x0E => s.selectBank ⟨bits w.toNat 1 0, by unfold bits; omega⟩ ⟨bits w.toNat 5 4, by unfold bits; omega⟩
  | n =>
    if 0x10 ≤ n then
      let k : SlotId := ⟨(n - 0x10) / 4 % 4, by omega⟩
      match n % 4 with
      | 0 => s.modSlot k fun e => { e with addrHigh := BitVec.ofNat 5 (bits w.toNat 4 0) }
      | 1 => s.modSlot k fun e => { e with addrLow := w }
      | 2 => s.modSlot k fun e => { e with data := w }
      | _ => s.slotControlWrite k (bits w.toNat 1 0)
    else s

/-! ### Reads: they change nothing (R162) -/

/-- Port status of the selected port (R163). DESIGN CHOICE (log 34): R163 names the enable setting, the READY level and the
PRST level and gives no bit value; 1 shows enabled, READY high and PRST asserted. -/
def State.portStatus (s : State) : Word :=
  let k := s.ports.get s.host.portSelect
  BitVec.ofNat 16 (s.host.portSelect.val + (if k.enabled then 4 else 0) + k.state.code * 8 +
    (if k.ready then 32 else 0) + (if k.prst then 64 else 0) + k.queue.length * 256)

/-- Scheduler status (R163). DESIGN CHOICE (log 34): 1 in bit 8 shows that a return state is present. -/
def State.schedStatus (s : State) : Word :=
  BitVec.ofNat 16 (s.mode.sched.code + s.mode.runSelect.val * 16 +
    (match s.mode.sched with
     | .drainSwitch .run => 256
     | .drainSwitch .held => 256 + 512
     | _ => 0))

/-- Bit `k` of a sum over the slots. -/
def State.slotBits (s : State) : Nat :=
  (allSlots.map fun k => if (s.host.slots.get k).complete then 2 ^ k.val else 0).sum

/-- Interrupt status (R163). DESIGN CHOICE (log 34): 1 shows a slot that is DONE or FAILED, a queue that holds a record and
INT asserted. -/
def State.intStatus (s : State) : Word :=
  BitVec.ofNat 16 (s.host.slotEnables.toNat + s.slotBits * 16 + (if s.eventsPresent then 256 else 0) +
    (if s.int then 32768 else 0))

/-- The three table data words of the named object; an index beyond the table reads 0 (R166, R168). -/
def State.tableWords (s : State) : Vector Word 3 :=
  let i := s.host.tableIndex.toNat
  match s.host.tableSelect.toNat with
  | 0 => ((s.regions.toList[i]?).map Region.words).getD (Vector.replicate 3 0)
  | 1 => ((s.remap.toList[i]?).map RemapEntry.words).getD (Vector.replicate 3 0)
  | 2 => #v[BitVec.ofNat 16 (s.editPage.field i), 0, 0]
  | _ => #v[BitVec.ofNat 16 (s.runPage.field i), 0, 0]

/-- A row as a view of bank status shows it: present in bit 15, 0 where absent (R163, R164). -/
def shownRow : Option Nat → Word
  | some row => BitVec.ofNat 16 (row + 32768)
  | none => 0

/-- The chosen view of the selected bank (R163, R164). DESIGN CHOICE (log 34): 1 in bit 3 of view 0 shows a close pending
mark that stands. -/
def State.bankStatus (s : State) : Word :=
  let k := s.banks.get s.host.bankSelect
  let a := s.account s.host.bankSelect
  match s.host.view.val with
  | 0 => BitVec.ofNat 16 (k.state.code + (if k.closePending then 8 else 0) + k.pins * 16 + (a.debt + 4).toNat * 4096)
  | 1 => shownRow (k.openRow?.map Fin.val)
  | 2 => shownRow k.physRow?
  | _ => BitVec.ofNat 16 a.pointer

/-- Slot status (R163, R169). -/
def Slot.status (k : Slot) : Word :=
  BitVec.ofNat 16 (k.state.code + kindCode k.kind * 4 +
    (match k.state with
     | .failed reason => reason.code * 16
     | _ => 0))

/-- The event head words of the oldest record; an empty queue shows 0 (R173). -/
def State.eventHead (s : State) (word : Event → Word) : Word := (s.events.records.head?.map word).getD 0

/-- The READY wait line of the host port: `waiting` while a host cycle has begun and its access has not been taken. The
part deasserts READY for that time (R162), and holds it asserted while RESET is asserted (R175). Where no cycle stands, the
spec gives no level but after an access: asserted (log 17). -/
def State.hostReady (s : State) (waiting : Bool) : Bool := s.resetAsserted || !waiting

/-- What a read of the register at word address `a` shows (R162, R163). While RESET is asserted a read returns 0
(R175). -/
def State.hostRead (s : State) (a : BitVec 5) : Word :=
  if s.resetAsserted then 0
  else
    match a.toNat with
    | 0x00 => BitVec.ofNat 16 (s.host.result.code + s.host.detail * 16)
    | 0x01 => s.schedStatus
    | 0x02 => s.portStatus
    | 0x03 => s.intStatus
    | 0x04 => BitVec.ofNat 16 s.events.mask.toNat
    | 0x05 => BitVec.ofNat 16 s.events.records.length
    | 0x06 => s.eventHead Event.word0
    | 0x07 => s.eventHead Event.word1
    | 0x08 => s.eventHead Event.word2
    | 0x09 => BitVec.ofNat 16 s.host.tableSelect.toNat
    | 0x0A => BitVec.ofNat 16 s.host.tableIndex.toNat
    | 0x0B => s.tableWords.get 0
    | 0x0C => s.tableWords.get 1
    | 0x0D => s.tableWords.get 2
    | 0x0E => s.bankStatus
    | 0x0F => BitVec.ofNat 16 s.credit.count
    | n =>
      let e := s.host.slots.get ⟨(n - 0x10) / 4 % 4, by omega⟩
      match n % 4 with
      | 0 => BitVec.ofNat 16 e.addrHigh.toNat
      | 1 => e.addrLow
      | 2 => e.data
      | _ => e.status

/-! ### The rows -/

/-- EVENT_POP (R157). -/
def execEventPop (s : State) : Host.Outcome State Fault Refusal := s.live State.eventPop

/-- UNKNOWN_COMMAND (R165). A code that does name a command gives that command (log 12). -/
def execUnknownCommand (code : BitVec 4) (s : State) : Host.Outcome State Fault Refusal :=
  s.live fun s => s.commandWrite code.toNat

/-- BANK_STATUS_SELECT (R164). -/
def execBankStatusSelect (b : BankId) (view : Fin 4) (s : State) : Host.Outcome State Fault Refusal :=
  s.live fun s => s.selectBank b view

/-- INTERRUPT_ENABLE_WRITE (R172). -/
def execInterruptEnableWrite (enables : BitVec 4) (s : State) : Host.Outcome State Fault Refusal :=
  s.live fun s => s.writeEnables enables

/-- EVENT_ENABLE_WRITE (R154). -/
def execEventEnableWrite (mask : BitVec 8) (s : State) : Host.Outcome State Fault Refusal :=
  s.live fun s => s.writeMask mask

/-- REGISTER_WRITE (R162). Every register answers as R163 gives; a register with a row of its own acts as that row
(log 12). -/
def execRegisterWrite (a : BitVec 5) (w : Word) (s : State) (inNextWindow : Bool := false) :
    Host.Outcome State Fault Refusal :=
  s.live fun s => (s.inWindow inNextWindow).hostWrite a w

end Sys2Proof.Machine
end

