-- ==== Sys2Proof/Machine/Reset.lean ====
section
/-! DEFINITION. The RESET input (R175). -/

namespace Sys2Proof.Machine

/-- Every block at its power-on values. What is not the part's is kept: the PRST lines, which are the clients', the
commands that wait and the count of free values (log 7). -/
def State.powerOn (s : State) (asserted : Bool) : State :=
  { State.reset with
    resetAsserted := asserted
    ports := s.ports.map fun k => .powerOn k.prst
    freeCount := s.freeCount
    pending := s.pending }

/-- RESET is asserted: every block takes and holds its power-on values. RESET is deasserted: windows begin from them
(R175). A deassertion where RESET is not asserted is no change of the line. -/
def State.resetLine (s : State) (asserted : Bool) : State :=
  if asserted then s.powerOn true else if s.resetAsserted then s.powerOn false else s

/-- POWER_ON_RESET (R175). -/
def execPowerOnReset (asserted : Bool) (s : State) : Host.Outcome State Fault Refusal := .next (s.resetLine asserted)

end Sys2Proof.Machine
end

