-- ==== Sys2Proof/Machine/Arbiter.lean ====
section
/-! DEFINITION. The command arbiter's choice (chapter 6): what each record offers in a decision, the candidates of
each kind of work, and the order among them. Nothing here changes state. -/

namespace Sys2Proof.Machine

/-- What a decision may issue (R5), with what it is issued for. -/
inductive Action where
  | closeAll
  | condition (b : BankId)
  | refresh (b : BankId)
  | close (b : BankId)
  | openFor (b : BankId) (row : Fin 2048)
  | burst (who : Requester) (r : Record)
  deriving DecidableEq, Repr

/-- The kind of action a record offers (R97). -/
inductive Offer where
  | burst
  | openRow
  | closeRow
  deriving DecidableEq, Repr

/-- The first that exists, in order. -/
def firstOf {α : Type} (l : List (Option α)) : Option α := l.findSome? id

/-! ### What a record offers (R50 to R53, R97) -/

/-- The owner's READY sample lets a burst move in this window; the host needs none (R21, R52). -/
def State.readyFor (s : State) : Requester → Bool
  | .port p => (s.ports.get p).ready
  | .host => true

/-- The lookahead condition of a record with `older` ahead of it (R50, R44). -/
def State.inLookahead (s : State) (who : Requester) (older : List Record) : Bool :=
  match who with
  | .port _ => older.length < s.runPage.lookahead
  | .host => older.isEmpty

/-- The hazard condition of a record with `older` ahead of it: none overlaps it with a WRITE among the two (R51). -/
def hazardFree (older : List Record) (r : Record) : Bool :=
  older.all fun q => !(q.overlaps r && (q.kind == .write || r.kind == .write))

/-- The scheduler state lets a QUEUED record start (R52). -/
def SchedState.mayStart (who : Requester) : SchedState → Bool
  | .run => true
  | .held => who == .host
  | _ => false

/-- The scheduler state lets a SUSPENDED record resume (R53). -/
def SchedState.mayResume : SchedState → Bool
  | .run => true
  | .drainHold => true
  | .drainSwitch _ => true
  | _ => false

/-- The record's own conditions for acting, READY aside (R52, R53). -/
def State.mayAct (s : State) (who : Requester) (older : List Record) (r : Record) : Bool :=
  match r.state with
  | .queued =>
    s.inLookahead who older && hazardFree older r && s.mode.sched.mayStart who && !s.urgent r.bank
  | .active _ => true
  | .suspended => s.mode.sched.mayResume && !s.urgent r.bank

/-- The action a record offers, if any (R97). An ACTIVE record offers bursts alone. -/
def State.offer (s : State) (who : Requester) (older : List Record) (r : Record) : Option Offer :=
  let k := s.banks.get r.bank
  if !s.mayAct who older r then none
  else if k.openOn r.row then
    if s.burstAllowed r.bank r.row && s.readyFor who then some .burst else none
  else if r.isActive then none
  else if k.isClosed then
    if 1 ≤ s.credit.count then some .openRow else none
  else if k.closeAllowed then some .closeRow
  else none

/-- The records of a queue that offer an action, oldest first, with what they offer; `older` stands ahead of them. -/
def State.offersFrom (s : State) (who : Requester) (older : List Record) : List Record → List (Record × Offer)
  | [] => []
  | r :: rest =>
    match s.offer who older r with
    | some o => (r, o) :: s.offersFrom who (older ++ [r]) rest
    | none => s.offersFrom who (older ++ [r]) rest

/-- The offers of a requester's queue (R97). -/
def State.offers (s : State) (who : Requester) : List (Record × Offer) := s.offersFrom who [] (s.queueOf who)

/-- An offer as the action it stands for. -/
def offerAction (who : Requester) : Record × Offer → Action
  | (r, .burst) => .burst who r
  | (r, .openRow) => .openFor r.bank r.row
  | (r, .closeRow) => .close r.bank

/-! ### An owner's action (R98) -/

/-- The continuing burst of the oldest record that offers one, else the oldest starting burst (R98, steps 1
and 2). -/
def State.rowHit (s : State) (who : Requester) : Option Action :=
  let l := s.offers who
  (firstOf [l.find? fun x => x.2 == .burst && x.1.state != .queued, l.find? fun x => x.2 == .burst]).map
    (offerAction who)

/-- The OPEN of the oldest record that offers one, else the oldest CLOSE (R98, steps 3 and 4). -/
def State.startAction (s : State) (who : Requester) : Option Action :=
  let l := s.offers who
  (firstOf [l.find? fun x => x.2 == .openRow, l.find? fun x => x.2 == .closeRow]).map (offerAction who)

/-- The owner's action (R98). -/
def State.ownerAction (s : State) (who : Requester) : Option Action := firstOf [s.rowHit who, s.startAction who]

/-! ### Refresh and housekeeping (R99 to R102) -/

/-- A REFRESH of bank `b` may be issued: it is CLOSED and a credit stands (R79, R93). -/
def State.refreshable (s : State) (b : BankId) : Bool := (s.banks.get b).isClosed && 1 ≤ s.credit.count

/-- What a critical bank offers (R99). -/
def State.criticalAt (s : State) (b : BankId) : Option Action :=
  if !s.critical b then none
  else if s.refreshable b then some (.refresh b)
  else if (s.banks.get b).closeAllowed then some (.close b)
  else none

/-- Critical work (R99). -/
def State.criticalWork (s : State) : Option Action := allBanks.findSome? s.criticalAt

/-- Among the banks with `q`, the one with the highest debt, the lower number winning a tie (R100, R102). -/
def State.highestDebt (s : State) (q : BankId → Bool) : Option BankId :=
  allBanks.foldl
    (fun best b =>
      if q b then
        match best with
        | none => some b
        | some c => if (s.account c).debt < (s.account b).debt then some b else best
      else best)
    none

/-- The refresh work of one bank (R100). -/
def State.refreshWorkAt (s : State) (b : BankId) : Option Action :=
  if s.refreshable b then some (.refresh b)
  else if s.urgent b && (s.banks.get b).closeAllowed then some (.close b)
  else none

/-- Refresh owner work (R100). -/
def State.refreshOwnerWork (s : State) : Option Action := (s.highestDebt s.owed).bind s.refreshWorkAt

/-- Urgent work (R100). -/
def State.urgentWork (s : State) : Option Action := (s.highestDebt s.urgent).bind s.refreshWorkAt

/-- A close-pending close (R101). -/
def State.closePendingClose (s : State) : Option Action :=
  (allBanks.find? fun b => (s.banks.get b).closePending && (s.banks.get b).closeAllowed).map .close

/-- The scheduler is draining (R101). -/
def SchedState.draining : SchedState → Bool
  | .drainHold => true
  | .drainSwitch _ => true
  | _ => false

/-- A drain close (R101). -/
def State.drainClose (s : State) : Option Action :=
  (allBanks.find? fun b =>
    s.mode.sched.draining && (s.banks.get b).closeAllowed &&
      !s.outstanding.any fun r => r.state == .suspended && r.namesOpenRow (s.banks.get b) b).map .close

/-- An idle close (R101). -/
def State.idleClose (s : State) : Option Action := (allBanks.find? s.idleClosable).map .close

/-- The bank is eligible for a pull-in (R102). -/
def State.pullInEligible (s : State) (b : BankId) : Bool :=
  (s.banks.get b).isClosed && -4 < (s.account b).debt && s.pointerNeedsRefresh b &&
    !s.outstanding.any (fun r => r.bank == b) && 2 ≤ s.credit.count

/-- A pull-in refresh (R102). -/
def State.pullIn (s : State) : Option Action := (s.highestDebt s.pullInEligible).map .refresh

/-! ### The free-window order (R103 to R105) -/

/-- The one with the older stamp. -/
def olderStamp (x y : Requester × Record × Offer) : Requester × Record × Offer :=
  if y.2.1.stamp < x.2.1.stamp then y else x

/-- The overdue records that offer an action, from all five queues (R105). -/
def State.overdueOffers (s : State) : List (Requester × Record × Offer) :=
  allRequesters.flatMap fun who => ((s.offers who).filter fun x => x.1.overdue s.runPage).map fun x => (who, x)

/-- The overdue choice: the action of the overdue record with the oldest stamp among those that offer one
(R105). -/
def State.overdueChoice (s : State) : Option Action :=
  match s.overdueOffers with
  | [] => none
  | x :: rest => let y := rest.foldl olderStamp x; some (offerAction y.1 y.2)

/-- The owners in the order of the round-robin's search, beginning after the pointer (R104). -/
def searchOrder (pointer : Requester) : List Requester :=
  allRequesters.drop (pointer.code + 1) ++ allRequesters.take (pointer.code + 1)

/-- The first owner of the search that has the action looked for (R104). -/
def State.roundRobin (s : State) (look : Requester → Option Action) : Option (Requester × Action) :=
  (searchOrder s.arbiter.pointer).findSome? fun who => (look who).map fun a => (who, a)

/-- An action with the round-robin pointer left as it was. -/
def State.keepPointer (s : State) (a : Action) : Requester × Action := (s.arbiter.pointer, a)

/-- The free-window order (R103, step 4), each action with the round-robin pointer after it (R104). -/
def State.freeWindow (s : State) : Option (Requester × Action) :=
  firstOf
    [s.urgentWork.map s.keepPointer,
     s.overdueChoice.map s.keepPointer,
     s.drainClose.map s.keepPointer,
     s.roundRobin s.rowHit,
     s.roundRobin s.startAction,
     s.pullIn.map s.keepPointer,
     s.idleClose.map s.keepPointer]

/-! ### The decision (R103, R106, R107) -/

/-- The owner of the current window (R91). -/
def State.owner (s : State) : Owner := s.runPage.owner s.arbiter.wheelPosition

/-- The owner's turn (R103, step 3). -/
def State.ownerTurn (s : State) : Option Action :=
  match s.owner with
  | .port p => s.ownerAction (.port p)
  | .host => s.ownerAction .host
  | .refresh => s.refreshOwnerWork
  | .free => none

/-- The decision in RUN, DRAIN_HOLD, DRAIN_SWITCH and HELD (R103). -/
def State.chooseRunning (s : State) : Option (Requester × Action) :=
  firstOf
    [s.criticalWork.map s.keepPointer,
     s.closePendingClose.map s.keepPointer,
     s.ownerTurn.map s.keepPointer,
     s.freeWindow]

/-- The decision in INIT (R107). -/
def State.chooseInit (s : State) : Option Action :=
  match s.refresh.conditioning with
  | .clearing => some .closeAll
  | .conditioning n =>
    let b : BankId := ⟨n % 4, by omega⟩
    if s.refreshable b then some (.condition b) else none
  | .idle => none
  | .trailing => none

/-- The decision of a window, with the round-robin pointer after it; `none` is an idle window (R106). -/
def State.choose (s : State) : Option (Requester × Action) :=
  match s.mode.sched with
  | .stopped => none
  | .init => s.chooseInit.map s.keepPointer
  | _ => s.chooseRunning

end Sys2Proof.Machine
end

