-- ==== Sys2Proof/Machine/Banks.lean ====
section
/-! DEFINITION. The running out of the bank timers (chapter 5, R72) and the end of conditioning, which is the
running out of bank 3's state timer in TRAILING (R128). A timer runs out in the window in which it has 0 windows
left; where it has not, the happening does not occur (log 4). -/

namespace Sys2Proof.Machine

/-- The state timer of an OPENING bank runs out: the bank becomes OPEN on its row (R75). -/
def State.openDelayExpiry (s : State) (b : BankId) : State :=
  match (s.banks.get b).state with
  | .opening row phys 0 => s.modBank b fun k => { k with state := .opened row phys }
  | _ => s

/-- The state timer of a CLOSING bank runs out: the bank becomes CLOSED (R76, R78). -/
def State.closeDelayExpiry (s : State) (b : BankId) : State :=
  match (s.banks.get b).state with
  | .closing 0 => s.modBank b fun k => { k with state := .closed }
  | _ => s

/-- The state timer of a REFRESHING bank runs out: the bank becomes CLOSED (R77). In TRAILING the running out at
bank 3, which took the 32nd conditioning refresh, ends the conditioning (R128). -/
def State.refreshTimeExpiry (s : State) (b : BankId) : State :=
  match (s.banks.get b).state with
  | .refreshing 0 =>
    let t := s.modBank b fun k => { k with state := .closed }
    if s.refresh.conditioning = .trailing ∧ b = 3 then t.endConditioning else t
  | _ => s

/-- The row-min timer of a bank runs out (R72). -/
def State.rowMinExpiry (s : State) (b : BankId) : State :=
  match (s.banks.get b).rowMin with
  | some 0 => s.modBank b fun k => { k with rowMin := none }
  | _ => s

/-- The write-recovery timer of a bank runs out (R72). -/
def State.writeRecoveryExpiry (s : State) (b : BankId) : State :=
  match (s.banks.get b).writeRecovery with
  | some 0 => s.modBank b fun k => { k with writeRecovery := none }
  | _ => s

/-- Every timer of bank `b` that runs out in this window and has not been taken is taken (R72, log 3). -/
def State.bankRunOuts (s : State) (b : BankId) : State :=
  ((((s.openDelayExpiry b).closeDelayExpiry b).refreshTimeExpiry b).rowMinExpiry b).writeRecoveryExpiry b

/-- The end of conditioning as the running out of bank 3's state timer in TRAILING (R128). -/
def State.conditioningEnd (s : State) : State :=
  if s.refresh.conditioning = .trailing then s.refreshTimeExpiry 3 else s

/-- OPEN_DELAY_EXPIRY (R75). -/
def execOpenDelayExpiry (b : BankId) (s : State) : Host.Outcome State Fault Refusal := s.live fun s => s.openDelayExpiry b

/-- CLOSE_DELAY_EXPIRY (R76). -/
def execCloseDelayExpiry (b : BankId) (s : State) : Host.Outcome State Fault Refusal := s.live fun s => s.closeDelayExpiry b

/-- REFRESH_TIME_EXPIRY (R77). -/
def execRefreshTimeExpiry (b : BankId) (s : State) : Host.Outcome State Fault Refusal :=
  s.live fun s => s.refreshTimeExpiry b

/-- ROW_MIN_EXPIRY (R72). -/
def execRowMinExpiry (b : BankId) (s : State) : Host.Outcome State Fault Refusal := s.live fun s => s.rowMinExpiry b

/-- WRITE_RECOVERY_EXPIRY (R72). -/
def execWriteRecoveryExpiry (b : BankId) (s : State) : Host.Outcome State Fault Refusal :=
  s.live fun s => s.writeRecoveryExpiry b

/-- CONDITIONING_END (R128). -/
def execConditioningEnd (s : State) : Host.Outcome State Fault Refusal := s.live State.conditioningEnd

end Sys2Proof.Machine
end

