-- ==== Sys2Proof/Machine/Window.lean ====
section
/-! DEFINITION. WINDOW_DECISION: the effect of the command a decision issues, the wheel's advance, ageing, stall
counting, and the passing of the window at every timer. Also STALL_ABORT. -/

namespace Sys2Proof.Machine

/-! ### OPEN, CLOSE, REFRESH (R74, R76, R77, R78) -/

/-- The physical row of a logical row: the spare that a valid remap entry names, else the row of the same number
(R8). -/
def State.translate (s : State) (b : BankId) (row : Fin 2048) : Nat :=
  match allRemap.find? fun i => (s.remap.get i).valid && (s.remap.get i).bank == b && (s.remap.get i).faultyRow == row with
  | some i => 2048 + (s.remap.get i).spare.val
  | none => row.val

/-- What the window carries on the DRAM command bus. -/
def State.drive (s : State) (c : DramCommand) : State := { s with bus := some c }

/-- OPEN (R74). -/
def State.issueOpen (s : State) (b : BankId) (row : Fin 2048) : State :=
  let phys := s.translate b row
  ((s.modBank b fun k =>
    { k with state := .opening row phys s.runPage.openDelay, rowMin := some s.runPage.rowMin }).takeCredit).drive
    (.openRow b phys)

/-- CLOSE (R76). -/
def State.issueClose (s : State) (b : BankId) : State :=
  (s.modBank b fun k => { k with state := .closing s.runPage.closeDelay, closePending := false }).drive (.close b)

/-- The bank and the credit of any REFRESH (R77). -/
def State.beginRefresh (s : State) (b : BankId) : State :=
  (s.modBank b fun k => { k with state := .refreshing s.runPage.refreshTime }).takeCredit

/-- A REFRESH of a group in the past of rows: the spares of the bank for group 128, the faulty rows of the group under
class RETAIN or HALF (R12). DESIGN CHOICE (log 30): it counts as refreshed at the issue, as R117 counts its unit, though the
bank carries the refresh out over REFRESH_TIME windows (R77). -/
def State.noteRefresh (s : State) (b : BankId) (g : Nat) : State :=
  { s with
    history :=
      { freed := if g = 128 then put s.history.freed b (Vector.replicate 16 false) else s.history.freed
        unrefreshed := Vector.ofFn fun i =>
          s.history.unrefreshed.get i &&
            !((s.remap.get i).bank == b && groupOf (s.remap.get i).faultyRow == g && classOf s.regions b g != .off) } }

/-- REFRESH against the debt: the group at the pointer, then the debt, the pointer and the retirement check
(R117). -/
def State.issueRefresh (s : State) (b : BankId) : State :=
  let g := (s.account b).pointer
  (((((s.beginRefresh b).drive (.refresh b g)).noteRefresh b g).modAccount b Account.pay)).retirementCheck b

/-- The conditioning count rises by one; at 32 the engine enters TRAILING (R127). -/
def Conditioning.next : Conditioning → Conditioning
  | .conditioning n => if n + 1 < 32 then .conditioning (n + 1) else .trailing
  | c => c

/-- A conditioning REFRESH of group 0 (R127). -/
def State.issueConditioning (s : State) (b : BankId) : State :=
  let t := (s.beginRefresh b).drive (.refresh b 0)
  { t with refresh := { t.refresh with conditioning := t.refresh.conditioning.next } }

/-- A bank at CLOSE-ALL (R78). -/
def Bank.closeAll (p : Page) (_ : Bank) : Bank where
  state := .closing (max p.closeDelay p.refreshTime)
  rowMin := none
  writeRecovery := none
  pins := 0
  closePending := false

/-- CLOSE-ALL: every bank becomes CLOSING, and the conditioning refreshes may begin (R78, R126). -/
def State.issueCloseAll (s : State) : State :=
  let t := { s with
    banks := s.banks.map (Bank.closeAll s.runPage)
    refresh := { s.refresh with conditioning := .conditioning 0 } }
  t.drive .closeAll

/-! ### READ and WRITE (R6, R22, R46, R80) -/

/-- The burst position of a record's next burst (R41). -/
def Record.position (r : Record) : Nat := r.firstBurst.val + r.burstsDone

/-- The word mask of a burst: a host WRITE enables its one word, every other burst all four (R6). -/
def Record.mask (r : Record) : BitVec 4 :=
  match r.word, r.kind with
  | some w, .write => BitVec.ofNat 4 (2 ^ w.val)
  | _, _ => BitVec.allOnes 4

/-- The four words of a burst position in the rank, `none` where undefined. -/
def Dram.burst (m : Dram) (b : BankId) (phys pos : Nat) : Vector (Option Word) 4 :=
  #v[m.read (dramAddr b phys (4 * pos)), m.read (dramAddr b phys (4 * pos + 1)),
     m.read (dramAddr b phys (4 * pos + 2)), m.read (dramAddr b phys (4 * pos + 3))]

/-- What the data bus carries in a WRITE burst: the captured word of a host WRITE in its place, the client's four
words, or nothing defined where the client drives nothing (R6, R22). -/
def Record.writeData (r : Record) (drive : Option BurstData) : Vector (Option Word) 4 :=
  match r.word, drive with
  | some w, _ => put (Vector.replicate 4 none) w r.data
  | none, some d => #v[some d.word0, some d.word1, some d.word2, some d.word3]
  | none, none => Vector.replicate 4 none

/-- A WRITE leaves every masked word of the burst as it was and stores the others (R6). -/
def Dram.storeBurst (m : Dram) (b : BankId) (phys pos : Nat) (mask : BitVec 4) (data : Vector (Option Word) 4) : Dram :=
  [(0 : Fin 4), 1, 2, 3].foldl
    (fun m k => if mask.getLsbD k.val then m.store (dramAddr b phys (4 * pos + k.val)) (data.get k) else m) m

/-- The physical row the bank holds (R70). -/
def State.physOf (s : State) (b : BankId) : Nat := (s.banks.get b).physRow?.getD 0

/-- The bus, the rank and the write-recovery timer in a burst for `r` (R6, R80). -/
def State.moveBurst (s : State) (r : Record) (drive : Option BurstData) : State :=
  let phys := s.physOf r.bank
  match r.kind with
  | .read => s.drive (.read r.bank r.position r.mask (s.dram.burst r.bank phys r.position))
  | .write =>
    let data := r.writeData drive
    let t := (s.modBank r.bank fun k => { k with writeRecovery := some s.runPage.writeRecovery }).drive
      (.write r.bank r.position r.mask data)
    { t with dram := s.dram.storeBurst r.bank phys r.position r.mask data }

/-- A client record's burst that is not its last: it becomes or stays ACTIVE with stall count 0, and a record that
becomes ACTIVE pins its bank (R46). -/
def State.advanceClient (s : State) (p : PortId) (r : Record) : State :=
  let r' := { r with state := .active 0, burstsDone := r.burstsDone + 1 }
  let t := s.modPort p fun k => { k with queue := k.queue.map fun q => if q.tag == r.tag then r' else q }
  if r.isActive then t else t.modBank r.bank fun k => { k with pins := k.pins + 1 }

/-- A client record counts its burst: BEAT is sent, and the last burst finishes it OK (R25, R46). -/
def State.burstClient (s : State) (p : PortId) (r : Record) : State :=
  let t := s.notify p (.beat r.tag r.burstsDone)
  if r.length ≤ r.burstsDone + 1 then t.finishClient p { r with burstsDone := r.burstsDone + 1 } .ok
  else t.advanceClient p r

/-- The slot of a host record (R41). -/
def Record.slot (r : Record) : SlotId :=
  match r.origin with
  | .slot k => k
  | .port p => p

/-- The word the tap samples for a host READ goes to the slot's data register; undefined contents give a free value
(R6, R170, log 13). -/
def State.sampleWord (s : State) (r : Record) : State :=
  match r.kind with
  | .write => s
  | .read =>
    match s.dram.read (dramAddr r.bank (s.physOf r.bank) (4 * r.position + (r.word.getD 0).val)) with
    | some w => s.modSlot r.slot fun k => { k with data := w }
    | none =>
      { s.modSlot r.slot fun k => { k with data := Config.undefinedWord s.freeCount } with
        freeCount := s.freeCount + 1 }

/-- A host record's one burst finishes it and its slot becomes DONE (R46, R170). -/
def State.burstHost (s : State) (r : Record) : State :=
  let t := ((s.sampleWord r).release r).modSlot r.slot fun k => { k with state := .done }
  { t with hostQueue := t.hostQueue.eraseP fun q => q.tag == r.tag }

/-- READ or WRITE for a record (R46, R80). -/
def State.issueBurst (s : State) (who : Requester) (r : Record) (drive : Option BurstData) : State :=
  match who with
  | .port p => (s.moveBurst r drive).burstClient p r
  | .host => (s.moveBurst r drive).burstHost r

/-- The effect of the action a decision issues (R90). -/
def State.issue (s : State) (drive : Option BurstData) : Action → State
  | .closeAll => s.issueCloseAll
  | .condition b => s.issueConditioning b
  | .refresh b => s.issueRefresh b
  | .close b => s.issueClose b
  | .openFor b row => s.issueOpen b row
  | .burst who r => s.issueBurst who r drive

/-! ### The window around the command -/

/-- The READY samples of the window (R21). A port whose sample a stall abort has shown to be low keeps it (log 5). -/
def State.sampleReady (s : State) (ready : BitVec 4) : State :=
  { s with ports := s.ports.mapIdx fun i k => { k with ready := ready.getLsbD i && !k.sampledLow } }

/-- The decision: the command chosen is issued, the round-robin pointer follows the choice (R89, R103, R104). -/
def State.decide (s : State) (drive : Option BurstData) : State :=
  match s.choose with
  | none => { s with bus := none }
  | some (ptr, a) =>
    let t := s.issue drive a
    { t with arbiter := { t.arbiter with pointer := ptr } }

/-- The wheel position advances; the step from the last entry to 0 is the wheel wrap, handed to mode control and tested
in the same happening (R91, R146). -/
def State.advanceWheel (s : State) : State :=
  if s.arbiter.wheelPosition + 1 < s.runPage.wheelLength then
    { s with arbiter := { s.arbiter with wheelPosition := s.arbiter.wheelPosition + 1 } }
  else s.handWrap.testWrap

/-- A record then QUEUED or SUSPENDED adds one to its age, up to 4,095 (R54). -/
def Record.grow (r : Record) : Record :=
  if r.isActive then r else if r.age < 4095 then { r with age := r.age + 1 } else r

/-- An ACTIVE record adds one to its stall count (R55). -/
def Record.stallMore (r : Record) : Record :=
  match r.state with
  | .active n => { r with state := .active (n + 1) }
  | _ => r

/-- The record's stall count has reached `limit` (R55). -/
def Record.stalledOut (limit : Nat) (r : Record) : Bool :=
  match r.state with
  | .active n => limit ≤ n
  | _ => false

/-- A stall abort: the record finishes STALLED and STALL_ABORT is posted (R55). -/
def State.abortRecord (p : PortId) (s : State) (r : Record) : State :=
  (s.finishClient p r .stalled).post .stallAbort (.port p) (some r.tag) r.burstsDone

/-- The stall counts of a port whose READY sample is low rise, and the records that reach STALL_LIMIT are aborted
(R55, log 22). -/
def State.stallPort (s : State) (p : PortId) : State :=
  if (s.ports.get p).ready then s
  else
    let t := s.modPort p fun k => { k with queue := k.queue.map Record.stallMore }
    ((t.ports.get p).queue.filter (Record.stalledOut s.runPage.stallLimit)).foldl (State.abortRecord p) t

/-- The happenings that fall in this window and have not been taken are taken (R72, R95, R109, log 3). -/
def State.takeDue (s : State) : State := (allBanks.foldl State.bankRunOuts s).refill.intervalExpiry

/-- A window passes at a bank's timers (R72). -/
def Bank.tick (k : Bank) : Bank :=
  { k with
    state :=
      match k.state with
      | .opening row phys n => .opening row phys (n - 1)
      | .closing n => .closing (n - 1)
      | .refreshing n => .refreshing (n - 1)
      | st => st
    rowMin := k.rowMin.map (· - 1)
    writeRecovery := k.writeRecovery.map (· - 1) }

/-- The decision has been taken at a port: the sample of the next is not known (log 5). -/
def Port.tick (k : Port) : Port := { k with sampledLow := false }

/-- The window is counted: every timer counts it (R72, R94, R112). The window itself runs on until the next begins, and
frames may still arrive in it (R15, 6.7, log 2). -/
def State.endWindow (s : State) : State :=
  { s with
    decided := true
    ports := s.ports.map Port.tick
    banks := s.banks.map Bank.tick
    credit := s.credit.tick s.runPage.refillPeriod
    refresh := { s.refresh with elapsed := if s.mode.sched.running then s.refresh.elapsed + 1 else s.refresh.elapsed } }

/-- The decision of a window, with the counts of the window (R89). A window begins with it at the latest (log 2). -/
def State.window (s : State) (ready : BitVec 4) (drive : Option BurstData) : State :=
  let t := ((s.beginWindow.sampleReady ready).decide drive).advanceWheel.mapRecords Record.grow
  ((allPorts.foldl State.stallPort t).settleDrain).takeDue.endWindow

/-! ### Stall abort as a happening of its own -/

/-- STALL_ABORT taken before the window's decision: the record's count rises to STALL_LIMIT with this window's low
READY sample, and the record finishes STALLED (R55, R109, log 5). It falls in the window of that decision, which has then
begun (log 2). Where no ACTIVE record with the tag stands one short of the limit or at it, the happening does not occur
(log 4). -/
def State.stallAbort (s : State) (p : PortId) (tag : Fin 16) : State :=
  match (s.ports.get p).queue.find? fun q => q.tag == tag with
  | some r =>
    if r.stallMore.stalledOut s.runPage.stallLimit then
      ((s.beginWindow.modPort p fun k => { k with ready := false, sampledLow := true }).abortRecord p r).settleDrain
    else s
  | none => s

/-- WINDOW_DECISION (R89). -/
def execWindowDecision (ready : BitVec 4) (drive : Option BurstData) (s : State) : Host.Outcome State Fault Refusal :=
  s.live fun s => s.window ready drive

/-- STALL_ABORT (R55). -/
def execStallAbort (p : PortId) (tag : Fin 16) (s : State) : Host.Outcome State Fault Refusal :=
  s.live fun s => s.stallAbort p tag

end Sys2Proof.Machine
end

