-- ==== Sys2Proof/Machine/Dispatch.lean ====
section
/-! DEFINITION. The dispatch of a command to its meaning, one arm per row of spec/opcode_table.json. -/

namespace Sys2Proof.Machine

def exec (i : Instr) (s : State) : Host.Outcome State Fault Refusal :=
  match i with
  | .powerOnReset asserted => Sys2Proof.Machine.execPowerOnReset asserted s
  | .start => Sys2Proof.Machine.execStart s
  | .hold => Sys2Proof.Machine.execHold s
  | .resume => Sys2Proof.Machine.execResume s
  | .switch inNextWindow => Sys2Proof.Machine.execSwitch s inNextWindow
  | .pageCopy => Sys2Proof.Machine.execPageCopy s
  | .softReset inNextWindow => Sys2Proof.Machine.execSoftReset s inNextWindow
  | .tableWriteRegion => Sys2Proof.Machine.execTableWriteRegion s
  | .tableWriteRemap => Sys2Proof.Machine.execTableWriteRemap s
  | .tableWritePage => Sys2Proof.Machine.execTableWritePage s
  | .eventPop => Sys2Proof.Machine.execEventPop s
  | .unknownCommand code => Sys2Proof.Machine.execUnknownCommand code s
  | .goRead slot => Sys2Proof.Machine.execGoRead slot s
  | .goWrite slot => Sys2Proof.Machine.execGoWrite slot s
  | .ack slot => Sys2Proof.Machine.execAck slot s
  | .portEnable port => Sys2Proof.Machine.execPortEnable port s
  | .portDisable port inNextWindow => Sys2Proof.Machine.execPortDisable port s inNextWindow
  | .portSelect port => Sys2Proof.Machine.execPortSelect port s
  | .bankStatusSelect bank view => Sys2Proof.Machine.execBankStatusSelect bank view s
  | .interruptEnableWrite enables => Sys2Proof.Machine.execInterruptEnableWrite enables s
  | .eventEnableWrite mask => Sys2Proof.Machine.execEventEnableWrite mask s
  | .registerWrite addr value inNextWindow => Sys2Proof.Machine.execRegisterWrite addr value s inNextWindow
  | .request port frame => Sys2Proof.Machine.execRequest port frame s
  | .cancel port frame => Sys2Proof.Machine.execCancel port frame s
  | .discardedFrame port frame => Sys2Proof.Machine.execDiscardedFrame port frame s
  | .prstAssert port => Sys2Proof.Machine.execPrstAssert port s
  | .prstDeassert port => Sys2Proof.Machine.execPrstDeassert port s
  | .windowDecision ready drive => Sys2Proof.Machine.execWindowDecision ready drive s
  | .openDelayExpiry bank => Sys2Proof.Machine.execOpenDelayExpiry bank s
  | .closeDelayExpiry bank => Sys2Proof.Machine.execCloseDelayExpiry bank s
  | .refreshTimeExpiry bank => Sys2Proof.Machine.execRefreshTimeExpiry bank s
  | .rowMinExpiry bank => Sys2Proof.Machine.execRowMinExpiry bank s
  | .writeRecoveryExpiry bank => Sys2Proof.Machine.execWriteRecoveryExpiry bank s
  | .refill => Sys2Proof.Machine.execRefill s
  | .intervalExpiry => Sys2Proof.Machine.execIntervalExpiry s
  | .stallAbort port tag => Sys2Proof.Machine.execStallAbort port tag s
  | .drainComplete => Sys2Proof.Machine.execDrainComplete s
  | .flip => Sys2Proof.Machine.execFlip s
  | .conditioningEnd => Sys2Proof.Machine.execConditioningEnd s

end Sys2Proof.Machine
end

