-- ==== Sys2Proof/Safety.lean ====
section
/-! DEFINITION. The laws a sound state of the part obeys, in the spec's terms, and the words that statements about
one command share. Every law is a proposition over plain data; none is used by the machine. -/

namespace Sys2Proof.Machine

/-! ### Words for statements about one command -/

/-- RESET is not asserted: commands have their effect (R175). -/
def State.Released (s : State) : Prop := s.resetAsserted = false

/-- The drain is complete: no record is ACTIVE or SUSPENDED and no bank is OPENING or OPEN (R145). -/
def State.DrainComplete (s : State) : Prop :=
  (∀ r ∈ s.outstanding, r.state = .queued) ∧ ∀ b, (s.banks.get b).openRow? = none

/-- Mode control's part in a happening that leads from `s` to `t` and posts nothing else: in DRAIN_HOLD with the drain
complete after it, the state is HELD and HOLD_DONE is posted; otherwise neither changes (R145). -/
def State.Settled (s t : State) : Prop :=
  (s.mode.sched = .drainHold ∧ t.DrainComplete →
    t.mode = { s.mode with sched := .held } ∧ t.events = (s.post .holdDone .none none 0).events) ∧
  (¬(s.mode.sched = .drainHold ∧ t.DrainComplete) → t.mode = s.mode ∧ t.events = s.events)

/-- Admission lets client requests through to the checks after HELD: RUN, or DRAIN_SWITCH with return state RUN
(R37). -/
def State.AdmitsClients (s : State) : Prop := s.mode.sched = .run ∨ s.mode.sched = .drainSwitch .run

/-- Admission refuses client requests HELD (R37). -/
def State.HoldsClients (s : State) : Prop :=
  s.mode.sched = .drainHold ∨ s.mode.sched = .drainSwitch .held ∨ s.mode.sched = .held

/-- The state after port `p` has taken a message as the first of its window and answered with the notices `l` (R15,
R23). -/
def State.answered (s : State) (p : PortId) (l : List Notice) : State :=
  { s with
    ports := put s.ports p
      { s.ports.get p with messageTaken := true, outbound := (s.ports.get p).outbound ++ l } }

/-- The GO command of a kind. -/
def goOf : Kind → SlotId → Instr
  | .read => .goRead
  | .write => .goWrite

/-- The lowest and the highest value of the page field with each index; the policy and the owners by their codes (R132,
R168). -/
def fieldRange : Nat → Nat × Nat
  | 0 => (1, 15)
  | 1 => (1, 31)
  | 2 => (1, 15)
  | 3 => (1, 15)
  | 4 => (4, 63)
  | 5 => (64, 8191)
  | 6 => (2, 7)
  | 7 => (1, 8)
  | 8 => (1, 255)
  | 9 => (1, 4)
  | 10 => (16, 4095)
  | 11 => (16, 4095)
  | 12 => (0, 1)
  | 13 => (4, 16)
  | _ => (0, 6)

/-- `v` lies within the range of field `i`, one of the thirty (R132, R134). -/
def FieldTakes (i v : Nat) : Prop := i ≤ 29 ∧ (fieldRange i).1 ≤ v ∧ v ≤ (fieldRange i).2

/-- What the finishes of the records `l` take from the region counts (R47, R62). -/
def State.CountsLowered (s t : State) (l : List Record) : Prop :=
  ∀ i, t.regions.get i =
    { s.regions.get i with refCount := (s.regions.get i).refCount - l.countP fun r => r.region == i }

/-- What the finishes of the records `l` take from the pin counts (R47, R82). -/
def State.PinsLowered (s t : State) (l : List Record) : Prop :=
  ∀ b, t.banks.get b =
    { s.banks.get b with pins := (s.banks.get b).pins - l.countP fun r => r.isActive && r.bank == b }

/-- Every port but `p` is as it was. -/
def State.OtherPortsKept (s t : State) (p : PortId) : Prop := ∀ q, q ≠ p → t.ports.get q = s.ports.get q

/-- Every bank but `b` is as it was. -/
def State.OtherBanksKept (s t : State) (b : BankId) : Prop := ∀ c, c ≠ b → t.banks.get c = s.banks.get c

/-! ### Words for statements about a window -/

/-- The READY sample of port `p` in a window whose READY levels are `ready`: a port on which a stall abort was taken in
this window has shown itself low (R21, log 5). -/
def State.sampled (s : State) (ready : BitVec 4) (p : PortId) : Bool :=
  ready.getLsbD p.val && !(s.ports.get p).sampledLow

/-- A record for which the window issues nothing: QUEUED or SUSPENDED, it ages; ACTIVE, its stall count rises where its
port's sample is low (R54, R55). -/
def Record.waited (low : Bool) (r : Record) : Record :=
  match r.state with
  | .active n => if low then { r with state := .active (n + 1) } else r
  | _ => { r with age := if r.age < 4095 then r.age + 1 else r.age }

/-- A port after the decision of a window whose READY sample is `sample` and in which the decision's notices are `sent`
(R21, R23). -/
def Port.afterDecision (k : Port) (sample : Bool) (queue : List Record) (sent : List Notice) : Port :=
  { k with
    ready := sample
    sampledLow := false
    queue := queue
    outbound := k.outbound ++ sent }

/-- A port after a decision that issues no burst on it. The window has begun by then (log 2). -/
def State.portWaited (s : State) (ready : BitVec 4) (p : PortId) : Port :=
  (s.beginWindow.ports.get p).afterDecision (s.sampled ready p)
    ((s.ports.get p).queue.map (Record.waited !(s.sampled ready p))) []

/-- The drain is complete after a decision with that choice, in a drain state: every record is QUEUED, and no bank is
OPENING or OPEN but one that the choice closes (R145, R146). -/
def State.DrainedBy (s : State) (choice : Option (Requester × Action)) : Prop :=
  (∀ r ∈ s.outstanding, r.state = .queued) ∧
    ∀ b, (s.banks.get b).openRow? = none ∨ ∃ ptr, choice = some (ptr, .close b)

/-- No stall count reaches STALL_LIMIT in a window with the READY levels `ready` (R55). -/
def State.NoAbort (s : State) (ready : BitVec 4) : Prop :=
  ∀ p, s.sampled ready p = false → ∀ r ∈ (s.ports.get p).queue, ∀ n, r.state = .active n →
    n + 1 < s.runPage.stallLimit

/-- The interval timer does not expire in the window (R112). -/
def State.NoExpiry (s : State) : Prop :=
  s.mode.sched.running = true → s.refresh.elapsed < s.runPage.refreshInterval

/-- The window with the READY levels `ready` flips the pages: a switch waits, the window is the wheel's last, and its
decision leaves the drain complete (R146). -/
def State.FlipsIn (s : State) (ready : BitVec 4) : Prop :=
  (∃ ret, s.mode.sched = .drainSwitch ret) ∧ s.runPage.wheelLength ≤ s.arbiter.wheelPosition + 1 ∧
    s.DrainedBy (s.sampleReady ready).choose

/-- The refresh accounts and the rank after a decision with that choice: a REFRESH pays a unit of its bank's debt and the
retirement check follows (R117). -/
def State.paidBy (s : State) (choice : Option (Requester × Action)) : State :=
  match choice with
  | some (_, .refresh b) => (s.modAccount b Account.pay).retirementCheck b
  | _ => s

/-- The records of port `p` whose stall counts reach STALL_LIMIT in a window with the READY levels `ready`, oldest first
(R55). -/
def State.stalledIn (s : State) (ready : BitVec 4) (p : PortId) : List Record :=
  if s.sampled ready p then []
  else
    (s.ports.get p).queue.filter fun r =>
      match r.state with
      | .active n => s.runPage.stallLimit ≤ n + 1
      | _ => false

/-- The state with the stall counts of those records at 0, in which none of them reaches the limit. -/
def State.unstalled (s : State) (ready : BitVec 4) : State :=
  { s with
    ports := Vector.ofFn fun p =>
      { s.ports.get p with
        queue := (s.ports.get p).queue.map fun r =>
          if r ∈ s.stalledIn ready p then { r with state := .active 0 } else r } }

/-- The post of the stall abort of a record of port `p` (R55). -/
def State.postStall (p : PortId) (s : State) (r : Record) : State :=
  s.post .stallAbort (.port p) (some r.tag) r.burstsDone

/-! ### Words for statements about an expiry -/

/-- An expiry has bank `b` pass the group at its pointer: the debt rises from 0 to 1 before an unretained group (R119,
R121). -/
def State.PassesAtExpiry (s : State) (b : BankId) : Prop := (s.account b).debt = 0 ∧ s.pointerNeedsRefresh b = false

/-- The accounts of `t` are those of `s` after an expiry (R112, R119). -/
def State.AccountsRaised (s t : State) : Prop :=
  ∀ b,
    ((s.account b).debt = 8 → t.account b = s.account b) ∧
    ((s.account b).debt ≠ 8 → ¬s.PassesAtExpiry b →
      t.account b = { s.account b with debt := (s.account b).debt + 1 }) ∧
    (s.PassesAtExpiry b → t.account b = { s.account b with pointer := (s.account b).pointer + 1 })

/-- The rank of `t` is that of `s` after an expiry: the words of the groups passed under OFF are undefined, and the others
are kept (R68). -/
def State.PassedRowsLost (s t : State) : Prop :=
  ∀ a,
    let lost := ∃ b, s.PassesAtExpiry b ∧ classOf s.regions b (s.account b).pointer = .off ∧
      inGroup b (s.account b).pointer a = true
    (lost → t.dram.read a = none) ∧ (¬lost → t.dram.read a = s.dram.read a)

/-- The posts of an expiry on accounts as those of `owing`, bank by bank: PREEMPT with the number of records suspended at a
rise to 8, REFRESH_OVERRUN with the pointer at a debt of 8 (R112, R114, R123). -/
def State.postExpiry (s owing : State) (suspended : BankId → Nat) : State :=
  allBanks.foldl
    (fun u b =>
      if (owing.account b).debt = 7 then u.post .preempt (.bank b) none (suspended b)
      else if (owing.account b).debt = 8 then u.post .refreshOverrun (.bank b) none (owing.account b).pointer
      else u)
    s

/-- The action's DRAM command goes to bank `b` (R5, R78). -/
def Action.Names (a : Action) (b : BankId) : Prop :=
  match a with
  | .closeAll => True
  | .condition c => c = b
  | .refresh c => c = b
  | .close c => c = b
  | .openFor c _ => c = b
  | .burst _ r => r.bank = b

/-- The action takes a credit: an OPEN or a REFRESH, conditioning refreshes among them (R93). -/
def Action.TakesCredit (a : Action) : Prop :=
  match a with
  | .openFor _ _ => True
  | .refresh _ => True
  | .condition _ => True
  | _ => False

/-- A timer that no command starts, after a window: it has a window less, or has run out (R72). -/
def timerPassed : Option Nat → Option Nat
  | some (n + 1) => some n
  | _ => none

/-- The bank of `r` after a window from `s` to `t` that carries a burst for `r`: a WRITE restarts the write-recovery timer,
and nothing else of the bank answers the burst but its pins (R80). -/
def State.BurstBankPassed (s t : State) (r : Record) : Prop :=
  let old := s.banks.get r.bank
  let new := t.banks.get r.bank
  new.state = old.state ∧ new.closePending = old.closePending ∧ new.rowMin = timerPassed old.rowMin ∧
    new.writeRecovery =
      match r.kind with
      | .read => timerPassed old.writeRecovery
      | .write => some (s.runPage.writeRecovery - 1)

/-- The record may act for its bank: a QUEUED record within the lookahead, free of hazards, in a scheduler state that lets
its owner start, on a bank that is not urgent; a SUSPENDED one in a state that lets it resume, on a bank that is not
urgent (R50 to R53). -/
def State.MayAct (s : State) (who : Requester) (older : List Record) (r : Record) : Prop :=
  (r.state = .queued →
    s.urgent r.bank = false ∧
    (∀ q ∈ older, q.bank = r.bank → q.row = r.row → q.firstBurst.val < r.firstBurst.val + r.length →
      r.firstBurst.val < q.firstBurst.val + q.length → q.kind = .read ∧ r.kind = .read) ∧
    match who with
    | .port _ => older.length < s.runPage.lookahead ∧ s.mode.sched = .run
    | .host => older = [] ∧ (s.mode.sched = .run ∨ s.mode.sched = .held)) ∧
  (r.state = .suspended → s.urgent r.bank = false ∧ s.mode.sched ≠ .held)

/-! ### Words for the order of decisions (6.4, 6.5)

A kind of work is the property of being an action that it puts forward. -/

/-- The work of `p`, or that of `q` where `p` has none. -/
def OrElse {α : Type} (p q : α → Prop) (a : α) : Prop := p a ∨ ((∀ c, ¬p c) ∧ q a)

/-- The lowest-numbered bank with `q` (R99, R101). -/
def IsLowest (q : BankId → Prop) (b : BankId) : Prop := q b ∧ ∀ c, c < b → ¬q c

/-- The bank with the highest debt among those with `q`, the lower number winning a tie (R100, R102). -/
def State.HasHighestDebt (s : State) (q : BankId → Prop) (b : BankId) : Prop :=
  q b ∧ ∀ c, q c → c ≠ b →
    (s.account c).debt < (s.account b).debt ∨ ((s.account c).debt = (s.account b).debt ∧ b < c)

/-- An OPEN or a REFRESH may be issued to the bank (R79, R93). -/
def State.CanOpen (s : State) (b : BankId) : Prop := (s.banks.get b).state = .closed ∧ 1 ≤ s.credit.count

/-- A CLOSE may be issued to the bank (R81). -/
def State.CanClose (s : State) (b : BankId) : Prop :=
  (∃ row phys, (s.banks.get b).state = .opened row phys) ∧
    (s.banks.get b).pins = 0 ∧ (s.banks.get b).rowMin = none ∧ (s.banks.get b).writeRecovery = none

/-- A burst may be issued for the record (R21, R80). -/
def State.CanBurst (s : State) (who : Requester) (r : Record) : Prop :=
  (∃ phys, (s.banks.get r.bank).state = .opened r.row phys) ∧ (s.banks.get r.bank).closePending = false ∧
    (s.account r.bank).debt < 8 ∧ ∀ p, who = .port p → (s.ports.get p).ready = true

/-- What a record with `older` ahead of it offers, in a state in which refresh is normal (R97). -/
def State.Offers (s : State) (who : Requester) (older : List Record) (r : Record) : Offer → Prop
  | .burst => s.MayAct who older r ∧ s.CanBurst who r
  | .openRow => r.isActive = false ∧ s.MayAct who older r ∧ s.CanOpen r.bank
  | .closeRow =>
    r.isActive = false ∧ s.MayAct who older r ∧ s.CanClose r.bank ∧
      ∀ phys, (s.banks.get r.bank).state ≠ .opened r.row phys

/-- The oldest record with `q` in the owner's queue that offers `o` (R98). -/
def State.IsOldestOffer (s : State) (who : Requester) (q : Record → Prop) (o : Offer) (r : Record) : Prop :=
  ∃ older younger, s.queueOf who = older ++ r :: younger ∧ q r ∧ s.Offers who older r o ∧
    ∀ before x after, older = before ++ x :: after → q x → ¬s.Offers who before x o

/-- A continuing burst: of an ACTIVE or SUSPENDED record (R97). -/
def State.IsContinuing (s : State) (who : Requester) (a : Action) : Prop :=
  ∃ r, s.IsOldestOffer who (fun x => x.state ≠ .queued) .burst r ∧ a = .burst who r

/-- A starting burst: of a QUEUED record (R97). -/
def State.IsStarting (s : State) (who : Requester) (a : Action) : Prop :=
  ∃ r, s.IsOldestOffer who (fun x => x.state = .queued) .burst r ∧ a = .burst who r

/-- The owner's row-hit action (R98, steps 1 and 2). -/
def State.IsRowHit (s : State) (who : Requester) : Action → Prop := OrElse (s.IsContinuing who) (s.IsStarting who)

/-- The owner's start action (R98, steps 3 and 4). -/
def State.IsStart (s : State) (who : Requester) : Action → Prop :=
  OrElse (fun a => ∃ r, s.IsOldestOffer who (fun _ => True) .openRow r ∧ a = .openFor r.bank r.row)
    fun a => ∃ r, s.IsOldestOffer who (fun _ => True) .closeRow r ∧ a = .close r.bank

/-- Critical work (R99). -/
def State.IsCriticalWork (s : State) (a : Action) : Prop :=
  ∃ b, IsLowest (fun c => (s.account c).debt = 8 ∧ (s.CanOpen c ∨ s.CanClose c)) b ∧
    ((s.CanOpen b ∧ a = .refresh b) ∨ (s.CanClose b ∧ a = .close b))

/-- A close-pending close (R101). -/
def State.IsClosePendingClose (s : State) (a : Action) : Prop :=
  ∃ b, IsLowest (fun c => (s.banks.get c).closePending = true ∧ s.CanClose c) b ∧ a = .close b

/-- The refresh work of the bank with the highest debt among those with `q` (R100). -/
def State.IsRefreshWork (s : State) (q : BankId → Prop) (a : Action) : Prop :=
  ∃ b, s.HasHighestDebt q b ∧
    ((s.CanOpen b ∧ a = .refresh b) ∨
      ((s.runPage.urgentLevel : Int) ≤ (s.account b).debt ∧ s.CanClose b ∧ a = .close b))

/-- The owner's turn (R103, step 3). -/
def State.IsTurn (s : State) (a : Action) : Prop :=
  match s.runPage.owner s.arbiter.wheelPosition with
  | .port p => OrElse (s.IsRowHit (.port p)) (s.IsStart (.port p)) a
  | .host => OrElse (s.IsRowHit .host) (s.IsStart .host) a
  | .refresh => s.IsRefreshWork (fun c => 0 < (s.account c).debt) a
  | .free => False

/-- Urgent work (R100). -/
def State.IsUrgentWork (s : State) : Action → Prop :=
  s.IsRefreshWork fun c => (s.runPage.urgentLevel : Int) ≤ (s.account c).debt

/-- The record, overdue, offers the action (R97, R105). -/
def State.OffersOverdue (s : State) (r : Record) (a : Action) : Prop :=
  s.runPage.starvationLimit ≤ r.age ∧
    ∃ who older younger, s.queueOf who = older ++ r :: younger ∧
      ((s.Offers who older r .burst ∧ a = .burst who r) ∨
        (s.Offers who older r .openRow ∧ a = .openFor r.bank r.row) ∨
        (s.Offers who older r .closeRow ∧ a = .close r.bank))

/-- The overdue choice: no overdue record that offers an action has an older stamp (R105). -/
def State.IsOverdueChoice (s : State) (a : Action) : Prop :=
  ∃ r, s.OffersOverdue r a ∧ ∀ x c, s.OffersOverdue x c → r.stamp ≤ x.stamp

/-- A drain close (R101). -/
def State.IsDrainClose (s : State) (a : Action) : Prop :=
  (s.mode.sched = .drainHold ∨ ∃ ret, s.mode.sched = .drainSwitch ret) ∧
    ∃ b, IsLowest
      (fun c => s.CanClose c ∧
        ∀ r ∈ s.outstanding, r.state = .suspended → r.bank = c → (s.banks.get c).openRow? ≠ some r.row) b ∧
      a = .close b

/-- How many owners the round-robin's search passes before it comes to `who`: it begins with the owner after the
pointer, in the cyclic order 0, 1, 2, 3, H (R104). -/
def State.searchPlace (s : State) (who : Requester) : Nat := (who.code + 4 - s.arbiter.pointer.code) % 5

/-- The first owner of the search that has the work, with its action; the pointer is then set to the owner (R104). -/
def State.IsServed (s : State) (work : Requester → Action → Prop) (x : Requester × Action) : Prop :=
  work x.1 x.2 ∧ ∀ who, s.searchPlace who < s.searchPlace x.1 → ∀ c, ¬work who c

/-- A pull-in refresh (R102). -/
def State.IsPullIn (s : State) (a : Action) : Prop :=
  ∃ b, s.HasHighestDebt
    (fun c => (s.banks.get c).state = .closed ∧ -4 < (s.account c).debt ∧ s.pointerNeedsRefresh c = true ∧
      (∀ r ∈ s.outstanding, r.bank ≠ c) ∧ 2 ≤ s.credit.count) b ∧ a = .refresh b

/-- An idle close (R84, R101). -/
def State.IsIdleClose (s : State) (a : Action) : Prop :=
  s.runPage.closePolicy = .closeIdle ∧
    ∃ b, IsLowest
      (fun c => s.CanClose c ∧ ∀ r ∈ s.outstanding, r.bank = c → (s.banks.get c).openRow? ≠ some r.row) b ∧
      a = .close b

/-- Work that leaves the round-robin pointer as it was (R104). -/
def State.Kept (s : State) (work : Action → Prop) (x : Requester × Action) : Prop := x.1 = s.arbiter.pointer ∧ work x.2

/-- The order of a decision in RUN, DRAIN_HOLD, DRAIN_SWITCH and HELD: the pair is the pointer after it and the action
(R103). -/
def State.Decides (s : State) : Requester × Action → Prop :=
  OrElse (s.Kept s.IsCriticalWork) <|
  OrElse (s.Kept s.IsClosePendingClose) <|
  OrElse (s.Kept s.IsTurn) <|
  OrElse (s.Kept s.IsUrgentWork) <|
  OrElse (s.Kept s.IsOverdueChoice) <|
  OrElse (s.Kept s.IsDrainClose) <|
  OrElse (s.IsServed s.IsRowHit) <|
  OrElse (s.IsServed s.IsStart) <|
  OrElse (s.Kept s.IsPullIn) (s.Kept s.IsIdleClose)

/-! ### Laws of the tables and pages -/

/-- Every field of a page lies within its range; the policy and the owners are named values (R132). -/
structure Page.InRange (p : Page) : Prop where
  openDelay : 1 ≤ p.openDelay ∧ p.openDelay ≤ 15
  rowMin : 1 ≤ p.rowMin ∧ p.rowMin ≤ 31
  writeRecovery : 1 ≤ p.writeRecovery ∧ p.writeRecovery ≤ 15
  closeDelay : 1 ≤ p.closeDelay ∧ p.closeDelay ≤ 15
  refreshTime : 4 ≤ p.refreshTime ∧ p.refreshTime ≤ 63
  refreshInterval : 64 ≤ p.refreshInterval ∧ p.refreshInterval ≤ 8191
  urgentLevel : 2 ≤ p.urgentLevel ∧ p.urgentLevel ≤ 7
  creditCapacity : 1 ≤ p.creditCapacity ∧ p.creditCapacity ≤ 8
  refillPeriod : 1 ≤ p.refillPeriod ∧ p.refillPeriod ≤ 255
  lookahead : 1 ≤ p.lookahead ∧ p.lookahead ≤ 4
  starvationLimit : 16 ≤ p.starvationLimit ∧ p.starvationLimit ≤ 4095
  stallLimit : 16 ≤ p.stallLimit ∧ p.stallLimit ≤ 4095
  wheelLength : 4 ≤ p.wheelLength ∧ p.wheelLength ≤ 16

/-- Both pages are within range, and the wheel position lies within the run page's wheel (R91, R132). -/
def State.PagesSound (s : State) : Prop :=
  (∀ i, (s.mode.pages.get i).InRange) ∧ s.arbiter.wheelPosition < s.runPage.wheelLength

/-- A page passes the checks 1 to 3 of R136. -/
def Page.Valid (p : Page) : Prop :=
  p.openDelay + 1 ≤ p.rowMin ∧ 4 * p.refreshTime ≤ p.refreshInterval ∧ ∃ o ∈ p.owners, o = .refresh ∨ o = .free

/-- The run page is valid, and so is the edit page while a switch to it is pending (R136, R143). -/
def State.RunPageValid (s : State) : Prop :=
  s.runPage.Valid ∧ ∀ ret, s.mode.sched = .drainSwitch ret → s.editPage.Valid

/-- Every region entry's range lies within the logical groups of its bank (R58). -/
def State.RegionsInRange (s : State) : Prop :=
  ∀ i, 1 ≤ (s.regions.get i).groupCount ∧ (s.regions.get i).firstGroup + (s.regions.get i).groupCount ≤ 128

/-- No two enabled region entries cover the same group of the same bank (R59). -/
def State.RegionsDisjoint (s : State) : Prop :=
  ∀ i j b g, (s.regions.get i).covers b g = true → (s.regions.get j).covers b g = true → i = j

/-- No two valid remap entries name the same bank and faulty row, and no two valid entries of one bank name the same
spare index (R7). -/
def State.RemapLaw (s : State) : Prop :=
  ∀ i j, i ≠ j → (s.remap.get i).valid = true → (s.remap.get j).valid = true →
    (s.remap.get i).bank = (s.remap.get j).bank →
      (s.remap.get i).faultyRow ≠ (s.remap.get j).faultyRow ∧ (s.remap.get i).spare ≠ (s.remap.get j).spare

/-- The physical row of an OPENING or OPEN bank is the row that the remap table gives for its open row now (R8, R10,
R11). -/
def State.RowsTranslated (s : State) : Prop :=
  ∀ b row, (s.banks.get b).openRow? = some row → (s.banks.get b).physRow? = some (s.translate b row)

/-! ### Laws of the queues -/

/-- The records of a port queue: at most 8, their tags distinct, each with bursts left, none in a port that is not
ENABLED (R13, R43). -/
structure Port.QueueSound (k : Port) : Prop where
  atMostEight : k.queue.length ≤ 8
  tagsDistinct : (k.queue.map Record.tag).Nodup
  burstsLeft : ∀ r ∈ k.queue, r.burstsDone < r.length
  onlyEnabled : k.state ≠ .enabled → k.queue = []

/-- In STOPPED and INIT no queue holds a record (R56). -/
def State.IdleStatesEmpty (s : State) : Prop :=
  s.mode.sched = .stopped ∨ s.mode.sched = .init → s.outstanding = []

/-- The four port queues are sound, and the five queues are empty in STOPPED and INIT. -/
def State.QueuesSound (s : State) : Prop := (∀ p, (s.ports.get p).QueueSound) ∧ s.IdleStatesEmpty

/-- The host queue holds one QUEUED record of length 1 for each QUEUED slot and no other, under the slot's number as
tag (R38, R44). -/
structure State.HostQueueSound (s : State) : Prop where
  ofSlot : ∀ r ∈ s.hostQueue, ∃ k : SlotId,
    r.origin = .slot k ∧ r.tag.val = k.val ∧ (s.host.slots.get k).state = .queued
  queued : ∀ r ∈ s.hostQueue, r.state = .queued ∧ r.length = 1 ∧ r.burstsDone = 0 ∧ r.word.isSome = true
  tagsDistinct : (s.hostQueue.map Record.tag).Nodup
  ofQueued : ∀ k : SlotId, (s.host.slots.get k).state = .queued → ∃ r ∈ s.hostQueue, r.origin = .slot k

/-! ### Laws of the banks -/

/-- A bank's pin count is non-zero only while it is OPEN, and equals the number of ACTIVE records on the bank; every
ACTIVE record on it names its open row (R71). -/
def State.PinLaw (s : State) : Prop :=
  ∀ b, (s.banks.get b).pins = s.activeOn b ∧
    ((s.banks.get b).pins ≠ 0 → (s.banks.get b).isOpen = true) ∧
    ∀ r ∈ s.outstanding, r.isActive = true → r.bank = b → (s.banks.get b).openRow? = some r.row

/-- The close pending mark stands only on a bank that is OPENING or OPEN (R88). -/
def State.MarksSound (s : State) : Prop :=
  ∀ b, (s.banks.get b).closePending = true → (s.banks.get b).openRow?.isSome = true

/-- Each region's reference count is the number of outstanding requests whose region field names it (R62). -/
def State.CountLaw (s : State) : Prop :=
  ∀ i, (s.regions.get i).refCount = s.outstanding.countP fun r => r.region == i

/-! ### Laws of refresh, credit and events -/

/-- Every bank's debt lies between -4 and 8, and its pointer names a group (R110). -/
def State.AccountsInRange (s : State) : Prop :=
  ∀ b, -4 ≤ (s.account b).debt ∧ (s.account b).debt ≤ 8 ∧ (s.account b).pointer ≤ 128

/-- A bank whose debt is positive has at its pointer a group that needs a real refresh (R120). -/
def State.PointersNeedRefresh (s : State) : Prop :=
  ∀ b, 0 < (s.account b).debt → s.pointerNeedsRefresh b = true

/-- A bank whose debt has reached 8 has no ACTIVE record (R48, R80). -/
def State.CriticalBanksFree (s : State) : Prop :=
  ∀ b, 8 ≤ (s.account b).debt → ∀ r ∈ s.outstanding, r.isActive = true → r.bank ≠ b

/-- Conditioning is under way in INIT and in no other state, with fewer than 32 refreshes while it counts (R126,
R128, R129). -/
def State.ConditioningSound (s : State) : Prop :=
  (s.mode.sched = .init ↔ s.refresh.conditioning ≠ .idle) ∧
    ∀ n, s.refresh.conditioning = .conditioning n → n < 32

/-- The credit count lies between 0 and the run page's CREDIT_CAPACITY (R93). -/
def State.CreditInRange (s : State) : Prop := s.credit.count ≤ s.runPage.creditCapacity

/-- The queue holds at most 16 records, a queue of 16 has OVERFLOW as its newest, and every OVERFLOW count is 1 to 255
(R152, R155). -/
structure EventQueue.Sound (q : EventQueue) : Prop where
  atMostSixteen : q.records.length ≤ 16
  sixteenth : q.records.length = 16 → ∃ n, q.records.getLast? = some (.overflow n)
  counts : ∀ n, .overflow n ∈ q.records → 1 ≤ n ∧ n ≤ 255

/-! ### All of them -/

/-- The laws together: a safe run stays within them. -/
structure State.Sound (s : State) : Prop where
  memory : s.dram.wf = true
  pages : s.PagesSound
  runPage : s.RunPageValid
  ranges : s.RegionsInRange
  regions : s.RegionsDisjoint
  remap : s.RemapLaw
  rows : s.RowsTranslated
  queues : s.QueuesSound
  hostQueue : s.HostQueueSound
  pins : s.PinLaw
  marks : s.MarksSound
  counts : s.CountLaw
  accounts : s.AccountsInRange
  pointers : s.PointersNeedRefresh
  critical : s.CriticalBanksFree
  conditioning : s.ConditioningSound
  credit : s.CreditInRange
  events : s.events.Sound

end Sys2Proof.Machine
end

