-- ==== Sys2Proof/WellFormed.lean ====
section
/-! DEFINITION. Which terms of `Instr` are commands of their row: a code or a register address that the row
is about, and a frame whose bytes are those of the row's message. Operands of a fixed width carry no check.
`exec` is total and does not rely on these checks. -/

namespace Sys2Proof

/-- Command codes 1 to 8 name a command; 0 and 9 to 15 name none (R165). -/
def namesCommand (code : BitVec 4) : Bool := 1 ≤ code.toNat && code.toNat ≤ 8

/-- The registers whose write has a row of its own in the table: command, port control, interrupt enable,
event enable, bank status and the four slot controls (R163). -/
def hasOwnRow (addr : BitVec 5) : Bool :=
  [0x00#5, 0x02#5, 0x03#5, 0x04#5, 0x0E#5, 0x13#5, 0x17#5, 0x1B#5, 0x1F#5].contains addr

/-- A whole REQUEST: kind code 01h and at least 5 bytes (R174). -/
def isRequestFrame (frame : List Byte) : Bool := frame.head? == some 0x01#8 && 5 ≤ frame.length

/-- A whole CANCEL: kind code 02h and at least 2 bytes (R174). -/
def isCancelFrame (frame : List Byte) : Bool := frame.head? == some 0x02#8 && 2 ≤ frame.length

/-- A command that is well formed for its row. A frame of any bytes may be discarded, since a whole message is
discarded when it is the second of its window (R15). A slot control write of 0 is a REGISTER_WRITE too (R169). -/
def Instr.wellFormed : Instr → Bool
  | .unknownCommand code => !namesCommand code
  | .registerWrite addr value _ =>
      !hasOwnRow addr || (addr.toNat % 4 == 3 && 0x10 ≤ addr.toNat && value.toNat % 4 == 0)
  | .request _ frame => isRequestFrame frame.bytes
  | .cancel _ frame => isCancelFrame frame.bytes
  | .powerOnReset _ => true
  | .start => true
  | .hold => true
  | .resume => true
  | .switch _ => true
  | .pageCopy => true
  | .softReset _ => true
  | .tableWriteRegion => true
  | .tableWriteRemap => true
  | .tableWritePage => true
  | .eventPop => true
  | .goRead _ => true
  | .goWrite _ => true
  | .ack _ => true
  | .portEnable _ => true
  | .portDisable _ _ => true
  | .portSelect _ => true
  | .bankStatusSelect _ _ => true
  | .interruptEnableWrite _ => true
  | .eventEnableWrite _ => true
  | .discardedFrame _ _ => true
  | .prstAssert _ => true
  | .prstDeassert _ => true
  | .windowDecision _ _ => true
  | .openDelayExpiry _ => true
  | .closeDelayExpiry _ => true
  | .refreshTimeExpiry _ => true
  | .rowMinExpiry _ => true
  | .writeRecoveryExpiry _ => true
  | .refill => true
  | .intervalExpiry => true
  | .stallAbort _ _ => true
  | .drainComplete => true
  | .flip => true
  | .conditioningEnd => true

end Sys2Proof
end

