-- ==== Sys2Proof/Certificates/Slice0/Obligations.lean ====
section
/-! DEFINITION. The statements for the provers. Each docstring names what of the spec it formalises; a statement that
rests on a choice of the model names the log entry. -/

open Sys2Proof Sys2Proof.Machine

/-! ### The machine as a whole -/

/-- A step runs the command at the front of the queue on the state with the queue's rest; on an empty queue the part
idles, which is the model's choice (log 1). -/
def Obligations.StepRunsFrontCommand : Prop :=
  (∀ (c : Instr) (rest : List Instr) (s : State), s.pending = c :: rest →
    step s = exec c { s with pending := rest }) ∧
  ∀ s : State, s.pending = [] → step s = .next s

/-- No command ends the run, and none touches the queue of waiting commands: every fault of the part is reported as data
(9.3; the model's reading, log 28). -/
def Obligations.EveryCommandAnswersAndKeepsQueue : Prop :=
  ∀ (c : Instr) (s : State), ∃ t, exec c s = .next t ∧ t.pending = s.pending

/-- The RESET line: asserted, every block takes its power-on values, the clients' PRST lines standing as they are;
deasserted, the part goes on from them; while it is asserted no other happening but a PRST change has an effect, INT is
deasserted, every host read returns 0 and the host port's READY is asserted (10.9); out of reset that READY is deasserted
while an access waits to be taken (10.1; its level where none waits is log 17). What the line keeps of the model's own
fields is log 7. -/
def Obligations.ResetLineHoldsPowerOnValues : Prop :=
  ∀ s : State,
    exec (.powerOnReset true) s =
      .next { State.reset with
        resetAsserted := true
        ports := s.ports.map fun k => Port.powerOn k.prst
        freeCount := s.freeCount
        pending := s.pending } ∧
    (s.Released → exec (.powerOnReset false) s = .next s) ∧
    (s.resetAsserted = true →
      exec (.powerOnReset false) s =
        .next { State.reset with
          ports := s.ports.map fun k => Port.powerOn k.prst
          freeCount := s.freeCount
          pending := s.pending } ∧
      (∀ c : Instr, (∀ a, c ≠ .powerOnReset a) → (∀ p, c ≠ .prstAssert p) → (∀ p, c ≠ .prstDeassert p) →
        exec c s = .next s) ∧
      s.int = false ∧ (∀ a, s.hostRead a = 0) ∧ ∀ waiting, s.hostReady waiting = true) ∧
    (s.Released → ∀ waiting, s.hostReady waiting = !waiting)

/-- The values after power-on reset that the spec states, block by block. That every port is DISABLED, and not IN_RESET,
rests on PRST lines deasserted in the state after reset, which is the model's choice (log 9). -/
def Obligations.PowerOnValues : Prop :=
  let s := State.reset
  (s.mode.sched = .stopped ∧ s.mode.runSelect = 0 ∧
    ∀ i, (List.range 30).map (s.mode.pages.get i).field =
      [3, 8, 3, 3, 12, 780, 6, 4, 10, 4, 256, 512, 0, 8, 0, 1, 2, 3, 4, 5, 6, 6, 6, 6, 6, 6, 6, 6, 6, 6]) ∧
  (∀ p, (s.ports.get p).state = .disabled ∧ (s.ports.get p).queue = []) ∧ s.hostQueue = [] ∧
  (∀ i, (s.regions.get i).enabled = false ∧ (s.regions.get i).bank = 0 ∧ (s.regions.get i).firstGroup = 0 ∧
    (s.regions.get i).groupCount = 1 ∧ (s.regions.get i).readPermit = 0 ∧ (s.regions.get i).writePermit = 0 ∧
    (s.regions.get i).cls = .retain ∧ (s.regions.get i).refCount = 0) ∧
  (∀ i, (s.remap.get i).valid = false ∧ (s.remap.get i).bank = 0 ∧ (s.remap.get i).faultyRow = 0 ∧
    (s.remap.get i).spare = 0) ∧
  (∀ b, (s.banks.get b).state = .closed ∧ (s.banks.get b).rowMin = none ∧ (s.banks.get b).writeRecovery = none ∧
    (s.banks.get b).pins = 0 ∧ (s.banks.get b).closePending = false) ∧
  (∀ b, (s.account b).debt = 0 ∧ (s.account b).pointer = 0 ∧ (s.account b).oddPass = false) ∧
  s.refresh.elapsed = 0 ∧ s.refresh.conditioning = .idle ∧
  s.credit.count = 4 ∧ s.credit.refillTimer = 0 ∧
  s.arbiter.wheelPosition = 0 ∧ s.arbiter.pointer = .port 0 ∧
  s.events.records = [] ∧ s.events.mask = 0xFF#8 ∧
  s.host.result = .ok ∧ s.host.detail = 0 ∧ s.host.portSelect = 0 ∧ s.host.slotEnables = 0 ∧
  s.host.tableSelect = 0 ∧ s.host.tableIndex = 0 ∧ (∀ i, s.host.stage.get i = 0) ∧
  s.host.bankSelect = 0 ∧ s.host.view = 0 ∧
  (∀ k, (s.host.slots.get k).addrHigh = 0 ∧ (s.host.slots.get k).addrLow = 0 ∧ (s.host.slots.get k).data = 0 ∧
    (s.host.slots.get k).state = .free ∧ (s.host.slots.get k).kind = .read) ∧
  s.bus = none ∧ s.int = false

/-! ### Laws that every step keeps -/

/-- The laws of a sound state hold right after reset. -/
def Obligations.LawsHoldAtReset : Prop := State.reset.Sound

/-- Every step keeps the canonical form of the rank's contents (the model's form of memory, log 13). -/
def Obligations.StepKeepsMemoryCanonical : Prop :=
  ∀ s t : State, s.dram.wf = true → step s = .next t → t.dram.wf = true

/-- Every field of a page always holds a value within its range, and the wheel position lies within the run page's
wheel (8.1, 6.2). -/
def Obligations.StepKeepsPagesInRange : Prop :=
  ∀ s t : State, s.PagesSound → step s = .next t → t.PagesSound

/-- The relations that the checks 1 to 3 of a SWITCH establish hold for as long as the page runs (8.1). -/
def Obligations.StepKeepsRunPageValid : Prop :=
  ∀ s t : State, s.RunPageValid → step s = .next t → t.RunPageValid

/-- Every region entry's range stays within its bank's groups (4.1), no two enabled region entries come to cover the same
group of the same bank (4.1), and no two valid remap entries to name the same bank and faulty row or the same bank and
spare index (1.4). -/
def Obligations.StepKeepsTablesUnambiguous : Prop :=
  (∀ s t : State, s.RegionsInRange → step s = .next t → t.RegionsInRange) ∧
  (∀ s t : State, s.RegionsDisjoint → step s = .next t → t.RegionsDisjoint) ∧
  ∀ s t : State, s.RemapLaw → step s = .next t → t.RemapLaw

/-- While a bank holds a row open, its physical row is the one the remap table gives for it: no accepted edit changes
the translation of a row held open (1.4, 1.5); and the close pending mark stands only on a bank that is OPENING or OPEN
(5.8). -/
def Obligations.StepKeepsOpenRowsAndMarks : Prop :=
  (∀ s t : State, s.RowsTranslated → step s = .next t → t.RowsTranslated) ∧
  ∀ s t : State, s.MarksSound → step s = .next t → t.MarksSound

/-- At most 8 records a port, no tag twice in a port, none on a port that is not ENABLED, none at all in STOPPED and
INIT (2.1, 3.3, 3.8). -/
def Obligations.StepKeepsPortQueuesSound : Prop :=
  ∀ s t : State, s.QueuesSound → step s = .next t → t.QueuesSound

/-- The host queue and the QUEUED slots name each other, one record a slot (3.3, 10.6). -/
def Obligations.StepKeepsHostQueueSound : Prop :=
  ∀ s t : State, s.QueuesSound → s.HostQueueSound → step s = .next t → t.HostQueueSound

/-- A bank's pin count is non-zero only while it is OPEN, and equals the number of ACTIVE records on it, which all name
its open row (5.1). -/
def Obligations.StepKeepsPinLaw : Prop :=
  ∀ s t : State, s.QueuesSound → s.HostQueueSound → s.PinLaw → step s = .next t → t.PinLaw

/-- Each region's reference count equals the number of outstanding requests whose region field names it (4.4). -/
def Obligations.StepKeepsCountLaw : Prop :=
  ∀ s t : State, s.QueuesSound → s.HostQueueSound → s.CountLaw → step s = .next t → t.CountLaw

/-- Every bank's refresh debt lies between -4 and +8 inclusive, and its pointer names a group (7.1). -/
def Obligations.StepKeepsDebtBound : Prop :=
  ∀ s t : State, s.AccountsInRange → step s = .next t → t.AccountsInRange

/-- At the end of every happening, a bank whose debt is positive has at its pointer a group that needs a real refresh
(7.5). -/
def Obligations.StepKeepsPointersAtGroupsThatNeedRefresh : Prop :=
  ∀ s t : State, s.AccountsInRange → s.PointersNeedRefresh → step s = .next t → t.PointersNeedRefresh

/-- A bank whose debt stands at 8 has no ACTIVE record: the rise to 8 suspends them, and no burst makes another (3.4,
5.4). -/
def Obligations.StepKeepsCriticalBanksFree : Prop :=
  ∀ s t : State, s.CriticalBanksFree → step s = .next t → t.CriticalBanksFree

/-- Conditioning is under way in INIT and in no other state, and counts fewer than 32 refreshes (7.8). -/
def Obligations.StepKeepsConditioningInInit : Prop :=
  ∀ s t : State, s.ConditioningSound → step s = .next t → t.ConditioningSound

/-- The credit count lies between 0 and the run page's CREDIT_CAPACITY inclusive (6.3). -/
def Obligations.StepKeepsCreditInCapacity : Prop :=
  ∀ s t : State, s.CreditInRange → step s = .next t → t.CreditInRange

/-- The event queue holds at most 16 records, and a queue of 16 has OVERFLOW as its newest (9.2). -/
def Obligations.StepKeepsEventQueueSound : Prop :=
  ∀ s t : State, s.events.Sound → step s = .next t → t.events.Sound

/-! ### The host's registers, events and interrupt line -/

/-- The writes that set a select, the interrupt enables, the event enable mask or a port's enable setting store what they
carry and change nothing else (2.5, 9.2, 10.2, 10.7). -/
def Obligations.SelectAndEnableWritesStore : Prop :=
  ∀ s : State, s.Released →
    (∀ p, exec (.portSelect p) s = .next { s with host := { s.host with portSelect := p } }) ∧
    (∀ p, exec (.portEnable p) s =
      .next { s with
        host := { s.host with portSelect := p }
        ports := put s.ports p { s.ports.get p with enabled := true } }) ∧
    (∀ b v, exec (.bankStatusSelect b v) s = .next { s with host := { s.host with bankSelect := b, view := v } }) ∧
    (∀ e, exec (.interruptEnableWrite e) s = .next { s with host := { s.host with slotEnables := e } }) ∧
    ∀ m, exec (.eventEnableWrite m) s = .next { s with events := { s.events with mask := m } }

/-- A host write to a plain register keeps the bits its layout names and changes nothing else; a write to a read-only
register, and a slot control write of 0, change nothing (10.1, 10.2, 10.6). `u` is the state in the window that the write falls
in (the sender's word, log 2). -/
def Obligations.RegisterWriteStores : Prop :=
  ∀ (s : State) (w : Word) (next : Bool), s.Released →
    let u := s.inWindow next
    exec (.registerWrite 0x09 w next) s = .next { u with host := { u.host with tableSelect := w.setWidth 2 } } ∧
    exec (.registerWrite 0x0A w next) s = .next { u with host := { u.host with tableIndex := w.setWidth 8 } } ∧
    (∀ i : Fin 3, exec (.registerWrite (BitVec.ofNat 5 (0x0B + i.val)) w next) s =
      .next { u with host := { u.host with stage := put u.host.stage i w } }) ∧
    (∀ k : SlotId, exec (.registerWrite (BitVec.ofNat 5 (0x10 + 4 * k.val)) w next) s =
      .next { u with host := { u.host with
        slots := put u.host.slots k { u.host.slots.get k with addrHigh := w.setWidth 5 } } }) ∧
    (∀ k : SlotId, exec (.registerWrite (BitVec.ofNat 5 (0x11 + 4 * k.val)) w next) s =
      .next { u with host := { u.host with
        slots := put u.host.slots k { u.host.slots.get k with addrLow := w } } }) ∧
    (∀ k : SlotId, exec (.registerWrite (BitVec.ofNat 5 (0x12 + 4 * k.val)) w next) s =
      .next { u with host := { u.host with
        slots := put u.host.slots k { u.host.slots.get k with data := w } } }) ∧
    (∀ a ∈ [0x01#5, 0x05#5, 0x06#5, 0x07#5, 0x08#5, 0x0F#5], exec (.registerWrite a w next) s = .next u) ∧
    ∀ k : SlotId, w.setWidth 2 = 0#2 → exec (.registerWrite (BitVec.ofNat 5 (0x13 + 4 * k.val)) w next) s = .next u

/-- A host write to a register whose write is a command of its own is that command, its operands in the bits the layout
names, in the window that the write falls in (10.2, 10.3; that REGISTER_WRITE covers these registers too is log 12; the
window is the sender's word, log 2). -/
def Obligations.RegisterWriteDecodesCommands : Prop :=
  ∀ (s : State) (w : Word) (next : Bool), (next = true → s.Released) →
    let u := s.inWindow next
    (∀ c : Instr, (w.setWidth 4, c) ∈
        [(1#4, Instr.start), (2#4, .hold), (3#4, .resume), (4#4, .switch), (5#4, .pageCopy), (6#4, .softReset),
         (8#4, .eventPop)] →
      exec (.registerWrite 0x00 w next) s = exec c u) ∧
    (w.setWidth 4 = 7#4 →
      (u.host.tableSelect = 0 → exec (.registerWrite 0x00 w next) s = exec .tableWriteRegion u) ∧
      (u.host.tableSelect = 1 → exec (.registerWrite 0x00 w next) s = exec .tableWriteRemap u) ∧
      (u.host.tableSelect = 2 ∨ u.host.tableSelect = 3 → exec (.registerWrite 0x00 w next) s = exec .tableWritePage u)) ∧
    (namesCommand (w.setWidth 4) = false → exec (.registerWrite 0x00 w next) s = exec (.unknownCommand (w.setWidth 4)) u) ∧
    (∀ p : PortId, w.setWidth 2 = BitVec.ofNat 2 p.val →
      (w.extractLsb' 4 2 = 1#2 → exec (.registerWrite 0x02 w next) s = exec (.portEnable p) u) ∧
      (w.extractLsb' 4 2 = 2#2 → exec (.registerWrite 0x02 w next) s = exec (.portDisable p) u) ∧
      (w.extractLsb' 4 2 ≠ 1#2 → w.extractLsb' 4 2 ≠ 2#2 →
        exec (.registerWrite 0x02 w next) s = exec (.portSelect p) u)) ∧
    exec (.registerWrite 0x03 w next) s = exec (.interruptEnableWrite (w.setWidth 4)) u ∧
    exec (.registerWrite 0x04 w next) s = exec (.eventEnableWrite (w.setWidth 8)) u ∧
    (∀ (b : BankId) (v : Fin 4), w.setWidth 2 = BitVec.ofNat 2 b.val → w.extractLsb' 4 2 = BitVec.ofNat 2 v.val →
      exec (.registerWrite 0x0E w next) s = exec (.bankStatusSelect b v) u) ∧
    ∀ k : SlotId,
      (w.setWidth 2 = 1#2 → exec (.registerWrite (BitVec.ofNat 5 (0x13 + 4 * k.val)) w next) s = exec (.goRead k) u) ∧
      (w.setWidth 2 = 2#2 → exec (.registerWrite (BitVec.ofNat 5 (0x13 + 4 * k.val)) w next) s = exec (.goWrite k) u) ∧
      (w.setWidth 2 = 3#2 → exec (.registerWrite (BitVec.ofNat 5 (0x13 + 4 * k.val)) w next) s = exec (.ack k) u)

/-- EVENT_POP removes the oldest record, whatever its kind, with result OK; on an empty queue nothing changes but the
command status, NOTHING (9.4). A code that names no command is refused BAD_VALUE and has no other effect (10.3). -/
def Obligations.EventPopAndUnknownCommand : Prop :=
  ∀ s : State, s.Released →
    (∀ e rest, s.events.records = e :: rest →
      exec .eventPop s =
        .next { s with
          events := { s.events with records := rest }
          host := { s.host with result := .ok, detail := 0 } }) ∧
    (s.events.records = [] →
      exec .eventPop s = .next { s with host := { s.host with result := .nothing, detail := 0 } }) ∧
    ∀ code, namesCommand code = false →
      exec (.unknownCommand code) s = .next { s with host := { s.host with result := .badValue, detail := 0 } }

/-- A post passing the mask is taken against the queue's room and its newest record (R155); a post of a disabled kind is
discarded. The queue is one that obeys the law of R155. -/
def Obligations.PostFollowsMaskAndRoom : Prop :=
  ∀ (s : State) (kind : EventKind) (source : Source) (tag : Option (Fin 16)) (detail : Nat), s.events.Sound →
    (s.post kind source tag detail =
      { s with events := { s.events with records := (s.post kind source tag detail).events.records } }) ∧
    (s.events.mask.getLsbD (kind.code - 1) = false → s.post kind source tag detail = s) ∧
    (s.events.mask.getLsbD (kind.code - 1) = true →
      (s.events.records.length < 15 →
        (s.post kind source tag detail).events.records = s.events.records ++ [.report kind source tag detail]) ∧
      (∀ older n, 14 ≤ older.length → s.events.records = older ++ [.overflow n] →
        (s.post kind source tag detail).events.records = older ++ [.overflow (min (n + 1) 255)]) ∧
      (s.events.records.length = 15 → (∀ n, s.events.records.getLast? ≠ some (.overflow n)) →
        (s.post kind source tag detail).events.records = s.events.records ++ [.overflow 1]))

/-- INT is asserted while the event queue holds a record or a slot is DONE or FAILED with its enable set, and deasserted
otherwise (10.7). -/
def Obligations.InterruptLineFollowsItsSources : Prop :=
  ∀ s : State, s.Released →
    (s.int = true ↔
      s.events.records ≠ [] ∨
        ∃ k : SlotId, ((s.host.slots.get k).state = .done ∨ ∃ reason, (s.host.slots.get k).state = .failed reason) ∧
          s.host.slotEnables.getLsbD k.val = true)

/-- What every register of the window shows: command, scheduler, port and interrupt status, the event registers, the table
data words of the named object, the views of bank status, the credit count and the slots, in the bits of their layouts and
with the unused bits 0 (10.2, 10.4, 10.5, 10.7). What a commit reads from the stage: each field of a region entry or a remap
entry from its bits, whatever stands in the others, so that an entry staged as it is shown is the entry again (10.4, 10.5).
That a level, a mark or a setting which holds shows as 1 is the model's choice, but for present in views 1 and 2 and the
interrupt enables (log 34). -/
def Obligations.TableWordsRoundTrip : Prop :=
  (∀ stage : Vector Word 3,
    let w (k : Fin 3) : Nat := (stage.get k).toNat
    let region := stagedRegion stage
    let entry := stagedRemap stage
    (region.firstGroup = w 0 % 256 ∧ region.groupCount = w 0 / 256 ∧ region.readPermit.toNat = w 1 % 32 ∧
      region.writePermit.toNat = w 1 / 256 % 32 ∧ region.bank.val = w 2 % 4 ∧ region.clsCode = w 2 / 4 % 4 ∧
      (region.enabled = true ↔ 32768 ≤ w 2)) ∧
    entry.faultyRow = w 0 % 4096 ∧ entry.spare.val = w 1 % 16 ∧ entry.bank.val = w 1 / 256 % 4 ∧
      (entry.valid = true ↔ 32768 ≤ w 2)) ∧
  (∀ e : Region, e.firstGroup ≤ 127 → e.groupCount ≤ 128 → e.refCount ≤ 36 →
    stagedRegion e.words =
      { enabled := e.enabled
        bank := e.bank
        firstGroup := e.firstGroup
        groupCount := e.groupCount
        readPermit := e.readPermit
        writePermit := e.writePermit
        clsCode := e.cls.code } ∧
    RefreshClass.ofCode e.cls.code = some e.cls) ∧
  (∀ e : RemapEntry,
    stagedRemap e.words = { valid := e.valid, bank := e.bank, faultyRow := e.faultyRow.val, spare := e.spare }) ∧
  ∀ s : State, s.Released →
    let shown (a : BitVec 5) : Nat := (s.hostRead a).toNat
    (s.host.detail ≤ 7 → ∃ code,
      [Result.ok, .busy, .wrongState, .pageInvalid, .badValue, .overlap, .regionBusy, .notHeld, .duplicate, .spareInUse,
        .rowOpen, .nothing][code]? = some s.host.result ∧
      shown 0x00 = code + 16 * s.host.detail) ∧
    shown 0x01 =
      (match s.mode.sched with
        | .stopped => 0
        | .init => 1
        | .run => 2
        | .drainHold => 3
        | .drainSwitch .run => 4 + 256
        | .drainSwitch .held => 4 + 256 + 512
        | .held => 5) + 16 * s.mode.runSelect.val ∧
    (let k := s.ports.get s.host.portSelect
     k.queue.length ≤ 8 →
      shown 0x02 = s.host.portSelect.val + (if k.enabled then 4 else 0) +
        (if k.prst then 8 * 2 else if k.enabled then 8 * 1 else 0) + (if k.ready then 32 else 0) +
        (if k.prst then 64 else 0) + 256 * k.queue.length) ∧
    (let finished (k : SlotId) : Nat :=
      match (s.host.slots.get k).state with
      | .done => 1
      | .failed _ => 1
      | _ => 0
     shown 0x03 = s.host.slotEnables.toNat + 16 * finished 0 + 32 * finished 1 + 64 * finished 2 + 128 * finished 3 +
      (if s.events.records = [] then 0 else 256) + (if s.int then 32768 else 0)) ∧
    shown 0x04 = s.events.mask.toNat ∧
    (s.events.records.length ≤ 16 → shown 0x05 = s.events.records.length) ∧
    (s.events.records = [] → shown 0x06 = 0 ∧ shown 0x07 = 0 ∧ shown 0x08 = 0) ∧
    (∀ kind source tag detail rest, s.events.records = .report kind source tag detail :: rest → detail ≤ 255 → ∃ code,
      [EventKind.initDone, .holdDone, .switchDone, .refreshOverrun, .preempt, .accessDenied, .stallAbort,
        .protocolError][code]? = some kind ∧
      shown 0x06 = code + 1 +
        (match source with
          | .none => 0
          | .port p => 16 * 1 + 256 * p.val
          | .bank b => 16 * 2 + 256 * b.val
          | .region r => 16 * 3 + 256 * r.val) ∧
      shown 0x07 = detail + (match tag with | some t => 256 * t.val + 32768 | none => 0) ∧ shown 0x08 = 0) ∧
    (∀ n rest, s.events.records = .overflow n :: rest → n ≤ 255 →
      shown 0x06 = 9 ∧ shown 0x07 = 0 ∧ shown 0x08 = n) ∧
    shown 0x09 = s.host.tableSelect.toNat ∧ shown 0x0A = s.host.tableIndex.toNat ∧
    (∀ i : Fin 16, s.host.tableSelect = 0 → s.host.tableIndex.toNat = i.val →
      let e := s.regions.get i
      (s.hostRead 0x0B = e.words.get 0 ∧ s.hostRead 0x0C = e.words.get 1 ∧ s.hostRead 0x0D = e.words.get 2) ∧
      (e.firstGroup ≤ 127 → e.groupCount ≤ 128 → shown 0x0B = e.firstGroup + 256 * e.groupCount) ∧
      shown 0x0C = e.readPermit.toNat + 256 * e.writePermit.toNat ∧
      (e.refCount ≤ 36 →
        shown 0x0D = e.bank.val + 4 * (match e.cls with | .retain => 0 | .half => 1 | .off => 2) + 256 * e.refCount +
          (if e.enabled then 32768 else 0))) ∧
    (∀ i : Fin 8, s.host.tableSelect = 1 → s.host.tableIndex.toNat = i.val →
      let e := s.remap.get i
      (s.hostRead 0x0B = e.words.get 0 ∧ s.hostRead 0x0C = e.words.get 1 ∧ s.hostRead 0x0D = e.words.get 2) ∧
      shown 0x0B = e.faultyRow.val ∧ shown 0x0C = e.spare.val + 256 * e.bank.val ∧
      shown 0x0D = if e.valid then 32768 else 0) ∧
    (let select := s.host.tableSelect.toNat
     let page := s.mode.pages.get (if select = 2 then s.mode.runSelect + 1 else s.mode.runSelect)
     2 ≤ select → s.host.tableIndex.toNat ≤ 29 → page.field s.host.tableIndex.toNat ≤ 65535 →
      shown 0x0B = page.field s.host.tableIndex.toNat ∧ shown 0x0C = 0 ∧ shown 0x0D = 0) ∧
    (let size := if s.host.tableSelect = 0 then 16 else if s.host.tableSelect = 1 then 8 else 30
     size ≤ s.host.tableIndex.toNat → shown 0x0B = 0 ∧ shown 0x0C = 0 ∧ shown 0x0D = 0) ∧
    (let k := s.banks.get s.host.bankSelect
     let a := s.account s.host.bankSelect
     (s.host.view = 0 → k.pins ≤ 16 → -4 ≤ a.debt → a.debt ≤ 8 →
      (shown 0x0E : Int) =
        (match k.state with
          | .closed => 0
          | .opening _ _ _ => 1
          | .opened _ _ => 2
          | .closing _ => 3
          | .refreshing _ => 4) + (if k.closePending then 8 else 0) + 16 * k.pins + 4096 * (a.debt + 4)) ∧
     (s.host.view = 1 →
      (∀ row, k.openRow? = some row → shown 0x0E = row.val + 32768) ∧ (k.openRow? = none → shown 0x0E = 0)) ∧
     (s.host.view = 2 →
      (∀ row, k.physRow? = some row → row ≤ 2063 → shown 0x0E = row + 32768) ∧ (k.physRow? = none → shown 0x0E = 0)) ∧
     (s.host.view = 3 → a.pointer ≤ 128 → shown 0x0E = a.pointer)) ∧
    (s.credit.count ≤ 8 → shown 0x0F = s.credit.count) ∧
    ∀ n : SlotId,
      let k := s.host.slots.get n
      shown (BitVec.ofNat 5 (0x10 + 4 * n.val)) = k.addrHigh.toNat ∧
      s.hostRead (BitVec.ofNat 5 (0x11 + 4 * n.val)) = k.addrLow ∧
      s.hostRead (BitVec.ofNat 5 (0x12 + 4 * n.val)) = k.data ∧
      let kind := if k.kind = .write then 4 else 0
      (k.state = .free → shown (BitVec.ofNat 5 (0x13 + 4 * n.val)) = 0 + kind) ∧
      (k.state = .queued → shown (BitVec.ofNat 5 (0x13 + 4 * n.val)) = 1 + kind) ∧
      (k.state = .done → shown (BitVec.ofNat 5 (0x13 + 4 * n.val)) = 2 + kind) ∧
      ∀ reason, k.state = .failed reason → ∃ code,
        [Reason.portDisabled, .notRunning, .held, .dupTag, .queueFull, .rowSpan, .noRegion, .parked, .denied,
          .flushed][code]? = some reason ∧
        shown (BitVec.ofNat 5 (0x13 + 4 * n.val)) = 3 + kind + 16 * (code + 1)

/-! ### The host's slots -/

/-- A GO to a FREE slot that passes the checks is filed: the slot shows QUEUED with the command's kind, the record with
the fields of the word address joins the tail of the host queue with the next stamp, the covering region counts it, and
the result is OK (1.1, 3.1, 10.6). -/
def Obligations.GoFilesHostRequest : Prop :=
  ∀ (s : State) (k : SlotId) (kind : Kind) (i : Fin 16) (bank : BankId) (row : Fin 2048) (burst : Fin 64) (word : Fin 4),
    s.Released → (s.host.slots.get k).state = .free → s.mode.sched ≠ .stopped → s.mode.sched ≠ .init →
    (let a := (s.host.slots.get k).addrHigh.toNat * 65536 + (s.host.slots.get k).addrLow.toNat
     bank.val = a / 524288 ∧ row.val = a / 256 % 2048 ∧ burst.val = a % 256 / 4 ∧ word.val = a % 4) →
    s.RegionsDisjoint → (s.regions.get i).covers bank (row.val / 16) = true → (s.regions.get i).cls ≠ .off →
    (s.regions.get i).permits .host kind = true →
    exec (goOf kind k) s =
      .next { s with
        host := { s.host with
          slots := put s.host.slots k { s.host.slots.get k with kind := kind, state := .queued }
          result := .ok
          detail := 0 }
        hostQueue := s.hostQueue ++
          [{ origin := .slot k, tag := ⟨k.val, by omega⟩, kind := kind, bank := bank, row := row, firstBurst := burst,
             word := some word, length := 1, region := i, stamp := s.stamp, state := .queued, burstsDone := 0, age := 0,
             preempted := false, data := if kind = .write then some (s.host.slots.get k).data else none }]
        stamp := s.stamp + 1
        regions := put s.regions i { s.regions.get i with refCount := (s.regions.get i).refCount + 1 } }

/-- A GO to a FREE slot that a check refuses leaves the slot FAILED with the reason, files nothing and shows OK; NO_REGION,
PARKED and DENIED post ACCESS_DENIED. A GO to a slot that is not FREE is ignored with BUSY (3.1, 10.6). -/
def Obligations.GoRefused : Prop :=
  ∀ (s : State) (k : SlotId) (kind : Kind) (bank : BankId) (row : Fin 2048),
    s.Released →
    (let a := (s.host.slots.get k).addrHigh.toNat * 65536 + (s.host.slots.get k).addrLow.toNat
     bank.val = a / 524288 ∧ row.val = a / 256 % 2048) →
    let failed (reason : Reason) (events : EventQueue) : State :=
      { s with
        host := { s.host with
          slots := put s.host.slots k { s.host.slots.get k with kind := kind, state := .failed reason }
          result := .ok
          detail := 0 }
        events := events }
    ((s.host.slots.get k).state ≠ .free →
      exec (goOf kind k) s = .next { s with host := { s.host with result := .busy, detail := 0 } }) ∧
    ((s.host.slots.get k).state = .free → s.mode.sched = .stopped ∨ s.mode.sched = .init →
      exec (goOf kind k) s = .next (failed .notRunning s.events)) ∧
    ((s.host.slots.get k).state = .free → s.mode.sched ≠ .stopped → s.mode.sched ≠ .init →
      ((∀ i, (s.regions.get i).covers bank (row.val / 16) = false) →
        exec (goOf kind k) s =
          .next (failed .noRegion (s.post .accessDenied .none (some ⟨k.val, by omega⟩) (4 + 16)).events)) ∧
      ∀ i, s.RegionsDisjoint → (s.regions.get i).covers bank (row.val / 16) = true →
        ((s.regions.get i).cls = .off →
          exec (goOf kind k) s =
            .next (failed .parked (s.post .accessDenied (.region i) (some ⟨k.val, by omega⟩) (4 + 32)).events)) ∧
        ((s.regions.get i).cls ≠ .off → (s.regions.get i).permits .host kind = false →
          exec (goOf kind k) s =
            .next (failed .denied (s.post .accessDenied (.region i) (some ⟨k.val, by omega⟩) (4 + 48)).events)))

/-- ACK returns a DONE or FAILED slot to FREE with result OK, its kind, address and data kept; a QUEUED slot answers BUSY
and a FREE slot NOTHING, and neither changes (10.6). -/
def Obligations.AckFreesFinishedSlot : Prop :=
  ∀ (s : State) (k : SlotId), s.Released →
    ((s.host.slots.get k).state = .done ∨ (∃ reason, (s.host.slots.get k).state = .failed reason) →
      exec (.ack k) s =
        .next { s with host := { s.host with
          slots := put s.host.slots k { s.host.slots.get k with state := .free }
          result := .ok
          detail := 0 } }) ∧
    ((s.host.slots.get k).state = .queued →
      exec (.ack k) s = .next { s with host := { s.host with result := .busy, detail := 0 } }) ∧
    ((s.host.slots.get k).state = .free →
      exec (.ack k) s = .next { s with host := { s.host with result := .nothing, detail := 0 } })

/-! ### Scheduler commands -/

/-- START, RESUME and PAGE_COPY in the states that take them and in those that refuse them (8.1, 8.3, 8.4). -/
def Obligations.StartResumePageCopy : Prop :=
  ∀ s : State, s.Released →
    let answer (r : Result) : HostInterface := { s.host with result := r, detail := 0 }
    (s.mode.sched = .stopped →
      exec .start s =
        .next { s with
          mode := { s.mode with sched := .init }
          refresh := { s.refresh with conditioning := .clearing }
          host := answer .ok }) ∧
    (s.mode.sched ≠ .stopped → exec .start s = .next { s with host := answer .wrongState }) ∧
    (s.mode.sched = .drainHold ∨ s.mode.sched = .held →
      exec .resume s = .next { s with mode := { s.mode with sched := .run }, host := answer .ok }) ∧
    (s.mode.sched ≠ .drainHold → s.mode.sched ≠ .held → exec .resume s = .next { s with host := answer .wrongState }) ∧
    ((∀ ret, s.mode.sched ≠ .drainSwitch ret) →
      exec .pageCopy s =
        .next { s with
          mode := { s.mode with pages := put s.mode.pages (s.mode.runSelect + 1) (s.mode.pages.get s.mode.runSelect) }
          host := answer .ok }) ∧
    ∀ ret, s.mode.sched = .drainSwitch ret → exec .pageCopy s = .next { s with host := answer .busy }

/-- HOLD in RUN begins the drain, or completes it in the same happening with HOLD_DONE where it is complete already; it is
refused BUSY in DRAIN_SWITCH and WRONG_STATE elsewhere (8.4). -/
def Obligations.HoldBeginsDrain : Prop :=
  ∀ s : State, s.Released →
    let answer (r : Result) : HostInterface := { s.host with result := r, detail := 0 }
    (s.mode.sched = .run → ¬s.DrainComplete →
      exec .hold s = .next { s with mode := { s.mode with sched := .drainHold }, host := answer .ok }) ∧
    (s.mode.sched = .run → s.DrainComplete →
      exec .hold s =
        .next { s with
          mode := { s.mode with sched := .held }
          events := (s.post .holdDone .none none 0).events
          host := answer .ok }) ∧
    (∀ ret, s.mode.sched = .drainSwitch ret → exec .hold s = .next { s with host := answer .busy }) ∧
    (s.mode.sched = .stopped ∨ s.mode.sched = .init ∨ s.mode.sched = .drainHold ∨ s.mode.sched = .held →
      exec .hold s = .next { s with host := answer .wrongState })

/-- The validation of a page: the checks in their order with their detail codes, 0 where all pass (R136). -/
def Obligations.SwitchValidationInOrder : Prop :=
  ∀ (s : State) (page : Page),
    let relation1 := page.openDelay + 1 ≤ page.rowMin
    let relation2 := 4 * page.refreshTime ≤ page.refreshInterval
    let relation3 := ∃ o ∈ page.wheel.toList.take page.wheelLength, o = .refresh ∨ o = .free
    let named (p : PortId) := Owner.port p ∈ page.wheel.toList.take page.wheelLength
    (¬relation1 → s.validationDetail page = 1) ∧
    (relation1 → ¬relation2 → s.validationDetail page = 2) ∧
    (relation1 → relation2 → ¬relation3 → s.validationDetail page = 3) ∧
    (∀ p : PortId, relation1 → relation2 → relation3 → (s.ports.get p).enabled = true → ¬named p →
      (∀ q, q < p → (s.ports.get q).enabled = true → named q) → s.validationDetail page = 4 + p.val) ∧
    (relation1 → relation2 → relation3 → (∀ p, (s.ports.get p).enabled = true → named p) →
      s.validationDetail page = 0)

/-- SWITCH: in RUN and HELD a valid edit page begins the drain with that return state; in STOPPED it flips at once with
SWITCH_DONE; a page that fails is refused PAGE_INVALID with its detail; BUSY in the drain states, WRONG_STATE in INIT
(8.5). `u` is the state in the window that the command falls in (the sender's word, log 2). The refill timer stands at 0 in the
window of the flip: a window that has had its decision is counted from there, and no refill of the time before falls in the
next (6.3; the mark of a refill that has not been taken is the model's, log 23). -/
def Obligations.SwitchBeginsDrainOrFlips : Prop :=
  ∀ (s : State) (next : Bool), s.Released →
    let u := s.inWindow next
    let answer (r : Result) : HostInterface := { s.host with result := r, detail := 0 }
    let edit := s.mode.pages.get (s.mode.runSelect + 1)
    let d := s.validationDetail edit
    (s.mode.sched = .run ∨ s.mode.sched = .held ∨ s.mode.sched = .stopped → d ≠ 0 →
      exec (.switch next) s = .next { u with host := { s.host with result := .pageInvalid, detail := d } }) ∧
    (s.mode.sched = .run → d = 0 →
      exec (.switch next) s = .next { u with mode := { s.mode with sched := .drainSwitch .run }, host := answer .ok }) ∧
    (s.mode.sched = .held → d = 0 →
      exec (.switch next) s = .next { u with mode := { s.mode with sched := .drainSwitch .held }, host := answer .ok }) ∧
    (s.mode.sched = .stopped → d = 0 →
      exec (.switch next) s =
        .next { u with
          mode := { s.mode with runSelect := s.mode.runSelect + 1 }
          arbiter := { s.arbiter with wheelPosition := 0 }
          credit :=
            { count := min s.credit.count edit.creditCapacity
              refillTimer := if u.decided then 1 else 0
              refillDue := if u.decided then decide (edit.refillPeriod ≤ 1) else s.credit.refillDue }
          events := (s.post .switchDone .none none (s.mode.runSelect + 1).val).events
          host := answer .ok }) ∧
    (s.mode.sched = .init → exec (.switch next) s = .next { u with host := answer .wrongState }) ∧
    (s.mode.sched = .drainHold ∨ (∃ ret, s.mode.sched = .drainSwitch ret) →
      exec (.switch next) s = .next { u with host := answer .busy })

/-- SOFT_RESET in STOPPED or INIT: STOPPED, the blocks at the values of 8.7, the configuration kept (8.7; that it clears the
record of the rank's contents is 1.5, log 15, and what it keeps of the past of rows log 30). The stamp counter's initial
value is 0 by the model's choice (log 18); the marks of a refill that has not been taken and of a wrap that has not been
tested are the model's own (log 23, log 6), and so is their end here. `u` is the state in the window that the command falls
in (the sender's word, log 2): the refill timer stands at 0 in that window, and one that has had its decision is counted from
there (6.3). -/
def Obligations.SoftResetInStoppedOrInit : Prop :=
  ∀ (s : State) (next : Bool), s.Released → s.mode.sched = .stopped ∨ s.mode.sched = .init → s.IdleStatesEmpty →
    let u := s.inWindow next
    ∃ t, exec (.softReset next) s = .next t ∧
      t = { u with
        mode := { s.mode with sched := .stopped }
        host := { s.host with result := .ok, detail := 0 }
        stamp := 0
        regions := t.regions
        banks := t.banks
        refresh := t.refresh
        credit :=
          { count := s.runPage.creditCapacity
            refillTimer := if u.decided then 1 else 0
            refillDue := u.decided && decide (s.runPage.refillPeriod ≤ 1) }
        arbiter := { s.arbiter with wheelPosition := 0, pointer := .port 0, wrapHanded := false }
        events := { s.events with records := [] }
        dram := []
        history := t.history } ∧
      (∀ b k, (t.history.freed.get b).get k = false) ∧ (∀ i, t.history.unrefreshed.get i = false) ∧
      (∀ i, t.regions.get i = { s.regions.get i with refCount := 0 }) ∧
      (∀ b, (t.banks.get b).state = .closed ∧ (t.banks.get b).rowMin = none ∧ (t.banks.get b).writeRecovery = none ∧
        (t.banks.get b).pins = 0 ∧ (t.banks.get b).closePending = false) ∧
      (∀ b, (t.account b).debt = 0 ∧ (t.account b).pointer = 0 ∧ (t.account b).oddPass = false) ∧
      t.refresh.elapsed = 0 ∧ t.refresh.conditioning = .idle

/-- SOFT_RESET elsewhere: every request finishes FLUSHED with its DONE in queue order or its slot FAILED(FLUSHED), the
counts and pins they held fall, the banks OPENING or OPEN are marked, the event queue is emptied, the state is HELD, and
the rest is kept (8.7). The DONE notices leave in the window that the command falls in, whose state is `u` (2.4; the sender's
word, log 2). The wheel position at 0 is no wrap (6.2; the mark of an untested wrap is the model's, log 6). -/
def Obligations.SoftResetFlushesToHeld : Prop :=
  ∀ (s : State) (next : Bool), s.Released → s.mode.sched ≠ .stopped → s.mode.sched ≠ .init →
    let u := s.inWindow next
    ∃ t, exec (.softReset next) s = .next t ∧
      t = { u with
        mode := { s.mode with sched := .held }
        host := { s.host with slots := t.host.slots, result := .ok, detail := 0 }
        ports := t.ports
        hostQueue := []
        regions := t.regions
        banks := t.banks
        refresh := { s.refresh with conditioning := .idle }
        arbiter := { s.arbiter with wheelPosition := 0, wrapHanded := false }
        events := { s.events with records := [] } } ∧
      (∀ p, t.ports.get p =
        { u.ports.get p with
          queue := []
          outbound := (u.ports.get p).outbound ++
            (s.ports.get p).queue.map fun r => .done r.tag .flushed r.burstsDone r.preempted }) ∧
      (∀ k, t.host.slots.get k =
        if (s.host.slots.get k).state = .queued then { s.host.slots.get k with state := .failed .flushed }
        else s.host.slots.get k) ∧
      s.CountsLowered t s.outstanding ∧
      ∀ b, t.banks.get b =
        { s.banks.get b with
          pins := (s.banks.get b).pins - s.activeOn b
          closePending := (s.banks.get b).closePending || (s.banks.get b).openRow?.isSome }

/-- The completion of a drain in DRAIN_HOLD: the state becomes HELD and HOLD_DONE is posted (8.6); where the drain is not
complete the happening does not occur (log 4). -/
def Obligations.DrainCompleteHolds : Prop :=
  ∀ s : State, s.Released →
    (s.mode.sched = .drainHold → s.DrainComplete →
      exec .drainComplete s =
        .next { s with mode := { s.mode with sched := .held }, events := (s.post .holdDone .none none 0).events }) ∧
    (s.mode.sched ≠ .drainHold ∨ ¬s.DrainComplete → exec .drainComplete s = .next s)

/-- The flip of a pending switch at a wheel wrap that has been handed to mode control, the drain complete: the selector
toggles, the count is clamped, the refill timer restarts, the interval timer keeps its count, the state becomes the return
state and SWITCH_DONE is posted with the new selector (8.6). A count that has reached the new interval expires in the flip:
every debt below 8 rises by one, a rise to 8 posts PREEMPT with no record suspended, a debt of 8 posts REFRESH_OVERRUN, an
unretained group before a debt that rises from 0 is passed, and SWITCH_DONE comes last (7.2, 7.9; the order is log 26).
The timer restarts in the window of the flip, which is counted where it has had its decision (6.3, log 2, log 23).
Without a completed drain the wrap is spent; where no wrap has been handed, a wheel position of 0 is none and nothing
changes (6.2; the mark of a wrap handed and not tested is the model's, log 6). -/
def Obligations.FlipChangesPages : Prop :=
  ∀ s : State, s.Released →
    (∀ ret, s.arbiter.wrapHanded = true → s.mode.sched = .drainSwitch ret → s.DrainComplete →
      let edit := s.mode.pages.get (s.mode.runSelect + 1)
      let mode : ModeControl :=
        { s.mode with
          runSelect := s.mode.runSelect + 1
          sched := match ret with | .run => .run | .held => .held }
      let credit : CreditBucket :=
        { count := min s.credit.count edit.creditCapacity
          refillTimer := if s.decided then 1 else 0
          refillDue := if s.decided then decide (edit.refillPeriod ≤ 1) else s.credit.refillDue }
      let arbiter : Arbiter := { s.arbiter with wheelPosition := 0, wrapHanded := false }
      (s.refresh.elapsed < edit.refreshInterval →
        exec .flip s =
          .next { s with
            mode := mode
            credit := credit
            arbiter := arbiter
            events := (s.post .switchDone .none none (s.mode.runSelect + 1).val).events }) ∧
      (edit.refreshInterval ≤ s.refresh.elapsed → s.AccountsInRange → s.PointersNeedRefresh →
        ∃ t, exec .flip s = .next t ∧
          t = { s with
            mode := mode
            credit := credit
            arbiter := arbiter
            banks := t.banks
            refresh := t.refresh
            events := t.events
            dram := t.dram } ∧
          t.refresh.elapsed = 0 ∧ t.refresh.conditioning = s.refresh.conditioning ∧
          s.AccountsRaised t ∧ s.PassedRowsLost t ∧
          (∀ b, t.banks.get b =
            { s.banks.get b with pins := if (s.account b).debt = 7 then 0 else (s.banks.get b).pins }) ∧
          t.events =
            ((s.postExpiry s fun _ => 0).post .switchDone .none none (s.mode.runSelect + 1).val).events)) ∧
    (s.arbiter.wrapHanded = true → (∀ ret, s.mode.sched ≠ .drainSwitch ret) ∨ ¬s.DrainComplete →
      exec .flip s = .next { s with arbiter := { s.arbiter with wrapHanded := false } }) ∧
    (s.arbiter.wrapHanded = false → exec .flip s = .next s)

/-! ### Table commits -/

/-- TABLE_WRITE with a page selected: BUSY in DRAIN_SWITCH; BAD_VALUE for the run page, an index beyond the fields or a
value out of range; otherwise the one field of the edit page takes the staged value and the result is OK (8.1). -/
def Obligations.TableWritePageWritesOneField : Prop :=
  ∀ s : State, s.Released → s.host.tableSelect = 2 ∨ s.host.tableSelect = 3 →
    let answer (r : Result) : HostInterface := { s.host with result := r, detail := 0 }
    let i := s.host.tableIndex.toNat
    let v := (s.host.stage.get 0).toNat
    let edit := s.mode.pages.get (s.mode.runSelect + 1)
    (∀ ret, s.mode.sched = .drainSwitch ret → exec .tableWritePage s = .next { s with host := answer .busy }) ∧
    ((∀ ret, s.mode.sched ≠ .drainSwitch ret) → s.host.tableSelect = 3 ∨ ¬FieldTakes i v →
      exec .tableWritePage s = .next { s with host := answer .badValue }) ∧
    ((∀ ret, s.mode.sched ≠ .drainSwitch ret) → s.host.tableSelect = 2 → FieldTakes i v →
      ∃ page : Page,
        exec .tableWritePage s =
          .next { s with
            mode := { s.mode with pages := put s.mode.pages (s.mode.runSelect + 1) page }
            host := answer .ok } ∧
        page.field i = v ∧ ∀ j, j ≠ i → page.field j = edit.field j)

/-- TABLE_WRITE with the region table selected: the checks in their order; an accepted commit replaces the entry and keeps
its reference count (4.5, 4.6). The account of a bank in which some group changes class is that of a retirement check under
the edited table, the others stay (4.6, 7.5; that the check of a critical bank may retire at once is log 32). The rows of
an OFF entry that the commit disables or gives another class, and of a group retired under OFF, are undefined, and no other
word changes: a moved or resized OFF entry wakes none (4.7; an entry that is both moved and woken is log 15). -/
def Obligations.TableWriteRegionChecksThenReplaces : Prop :=
  ∀ s : State, s.Released → s.RegionsInRange → s.host.tableSelect = 0 →
    let answer (r : Result) : State := { s with host := { s.host with result := r, detail := 0 } }
    let g := stagedRegion s.host.stage
    let inRange := g.firstGroup ≤ 127 ∧ 1 ≤ g.groupCount ∧ g.groupCount ≤ 128 ∧ g.firstGroup + g.groupCount ≤ 128
    (¬(s.host.tableIndex.toNat ≤ 15 ∧ inRange ∧ g.clsCode ≤ 2) → exec .tableWriteRegion s = .next (answer .badValue)) ∧
    ∀ (i : Fin 16) (cls : RefreshClass), s.host.tableIndex.toNat = i.val → inRange → g.clsCode = cls.code →
      let e := s.regions.get i
      let overlap := g.enabled = true ∧ ∃ j, j ≠ i ∧ ∃ n, g.firstGroup ≤ n ∧ n < g.firstGroup + g.groupCount ∧
        (s.regions.get j).covers g.bank n = true
      let busy := e.refCount ≠ 0 ∧
        (g.enabled = false ∨ g.bank ≠ e.bank ∨ g.firstGroup ≠ e.firstGroup ∨ g.groupCount ≠ e.groupCount ∨ cls = .off)
      let entry : Region :=
        { enabled := g.enabled, bank := g.bank, firstGroup := g.firstGroup, groupCount := g.groupCount,
          readPermit := g.readPermit, writePermit := g.writePermit, cls := cls, refCount := e.refCount }
      (overlap → exec .tableWriteRegion s = .next (answer .overlap)) ∧
      (¬overlap → busy → exec .tableWriteRegion s = .next (answer .regionBusy)) ∧
      (¬overlap → ¬busy →
        ∃ t, exec .tableWriteRegion s = .next t ∧
          t = { answer .ok with regions := put s.regions i entry, refresh := t.refresh, dram := t.dram } ∧
          t.refresh.elapsed = s.refresh.elapsed ∧ t.refresh.conditioning = s.refresh.conditioning ∧
          (∀ b,
            let edited : State := { s with regions := put s.regions i entry }
            let reclassified := ∃ n, n ≤ 128 ∧ classOf s.regions b n ≠ classOf edited.regions b n
            (reclassified → t.account b = (edited.retirementCheck b).account b) ∧
            (¬reclassified → t.account b = s.account b)) ∧
          ∀ a,
            let lost := ∃ b n, inGroup b n a = true ∧
              ((e.covers b n = true ∧ e.cls = .off ∧ (g.enabled = false ∨ cls ≠ .off)) ∨
                (classOf t.regions b n = .off ∧ (s.account b).pointer ≤ n ∧ n < (t.account b).pointer))
            (lost → t.dram.read a = none) ∧ (¬lost → t.dram.read a = s.dram.read a))

/-- TABLE_WRITE with the remap table selected: NOT_HELD outside STOPPED and HELD, BAD_VALUE, then by the class of the edit
DUPLICATE, SPARE_IN_USE and ROW_OPEN; an accepted edit other than a removal stores the staged entry, a removal leaves the
entry invalid (1.5; which fields a removed entry keeps is open, log 20). Of the rank, the faulty row that an edit gives back
unrefreshed since its add and the spare that an edit takes unrefreshed since an entry left it become undefined, and nothing
else changes; a replacement that keeps the bank and the faulty row gives back no faulty row (1.5; the
marks of that past, and the choice where 1.5 says two things, are log 30). -/
def Obligations.TableWriteRemapChecksThenStores : Prop :=
  ∀ s : State, s.Released → s.host.tableSelect = 1 →
    let answer (r : Result) : State := { s with host := { s.host with result := r, detail := 0 } }
    let g := stagedRemap s.host.stage
    (s.mode.sched ≠ .stopped → s.mode.sched ≠ .held → exec .tableWriteRemap s = .next (answer .notHeld)) ∧
    (s.mode.sched = .stopped ∨ s.mode.sched = .held → ¬(s.host.tableIndex.toNat ≤ 7 ∧ g.faultyRow ≤ 2047) →
      exec .tableWriteRemap s = .next (answer .badValue)) ∧
    ∀ (i : Fin 8) (row : Fin 2048), s.mode.sched = .stopped ∨ s.mode.sched = .held →
      s.host.tableIndex.toNat = i.val → g.faultyRow = row.val →
      let old := s.remap.get i
      let new : RemapEntry := { valid := g.valid, bank := g.bank, faultyRow := row, spare := g.spare }
      let duplicate := ∃ j, j ≠ i ∧ (s.remap.get j).valid = true ∧ (s.remap.get j).bank = g.bank ∧
        (s.remap.get j).faultyRow = row
      let spareUsed := ∃ j, j ≠ i ∧ (s.remap.get j).valid = true ∧ (s.remap.get j).bank = g.bank ∧
        (s.remap.get j).spare = g.spare
      let held (b : BankId) (r : Fin 2048) := (s.banks.get b).openRow? = some r
      let adds := g.valid = true ∧ ¬(old.valid = true ∧ old = new)
      let leaves := old.valid = true ∧ old ≠ new
      let keepsRow := old.valid = true ∧ g.valid = true ∧ old.bank = g.bank ∧ old.faultyRow = row
      (adds → duplicate → exec .tableWriteRemap s = .next (answer .duplicate)) ∧
      (adds → ¬duplicate → spareUsed → exec .tableWriteRemap s = .next (answer .spareInUse)) ∧
      (adds → ¬duplicate → ¬spareUsed → held g.bank row → exec .tableWriteRemap s = .next (answer .rowOpen)) ∧
      (leaves → (adds → ¬duplicate ∧ ¬spareUsed ∧ ¬held g.bank row) → held old.bank old.faultyRow →
        exec .tableWriteRemap s = .next (answer .rowOpen)) ∧
      ((adds → ¬duplicate ∧ ¬spareUsed ∧ ¬held g.bank row) → (leaves → ¬held old.bank old.faultyRow) →
        ∃ (entry : RemapEntry) (t : State), exec .tableWriteRemap s = .next t ∧
          t = { answer .ok with remap := put s.remap i entry, dram := t.dram, history := t.history } ∧
          entry.valid = g.valid ∧ (¬(old.valid = true ∧ g.valid = false) → entry = new) ∧
          (let freed (b : BankId) (k : Fin 16) :=
            (s.history.freed.get b).get k = true ∨ (leaves ∧ b = old.bank ∧ k = old.spare)
           (∀ b k, (t.history.freed.get b).get k = true ↔ freed b k ∧ ¬(adds ∧ b = g.bank ∧ k = g.spare)) ∧
           (∀ j, t.history.unrefreshed.get j = true ↔
            if j = i ∧ (adds ∨ leaves) ∧ ¬keepsRow then adds else s.history.unrefreshed.get j = true) ∧
           ∀ a,
            let lost :=
              (leaves ∧ ¬keepsRow ∧ s.history.unrefreshed.get i = true ∧ dramAddr old.bank old.faultyRow.val 0 ≤ a ∧
                a < dramAddr old.bank old.faultyRow.val 0 + 256) ∨
              (adds ∧ freed g.bank g.spare ∧ dramAddr g.bank (2048 + g.spare.val) 0 ≤ a ∧
                a < dramAddr g.bank (2048 + g.spare.val) 0 + 256)
            (lost → t.dram.read a = none) ∧ (¬lost → t.dram.read a = s.dram.read a)))

/-- A retirement check passes unretained groups for as long as the debt is positive and lowers the debt by one for each; it
ends at debt 0 or at a group that needs a real refresh, never wraps, and changes nothing but the bank's account and the
contents of groups of class OFF (7.5). The words of a group passed under OFF are undefined afterwards (R68); that those of a
group passed under HALF are kept is the model's reading (R68, log 25). -/
def Obligations.RetirementPassesUnretainedGroups : Prop :=
  ∀ (s : State) (b : BankId), (s.account b).pointer ≤ 128 →
    let t := s.retirementCheck b
    let unretained (n : Nat) := needsRefresh (classOf s.regions b n) (s.account b).oddPass = false
    t = { s with refresh := t.refresh, dram := t.dram } ∧
    t.refresh.elapsed = s.refresh.elapsed ∧ t.refresh.conditioning = s.refresh.conditioning ∧
    (∀ c, c ≠ b → t.account c = s.account c) ∧
    ∃ n : Nat,
      (t.account b).debt = (s.account b).debt - n ∧ (t.account b).pointer = (s.account b).pointer + n ∧
      (t.account b).oddPass = (s.account b).oddPass ∧ (t.account b).pointer ≤ 128 ∧
      (∀ k, k < n → unretained ((s.account b).pointer + k) ∧ 0 < (s.account b).debt - k) ∧
      ((t.account b).debt ≤ 0 ∨ ¬unretained (t.account b).pointer) ∧
      ∀ a,
        let lost := ∃ k, k < n ∧ classOf s.regions b ((s.account b).pointer + k) = .off ∧
          dramAddr b (16 * ((s.account b).pointer + k)) 0 ≤ a ∧
          a < dramAddr b (16 * ((s.account b).pointer + k)) 0 + 4096
        (lost → t.dram.read a = none) ∧ (¬lost → t.dram.read a = s.dram.read a)

/-! ### Client link ports -/

/-- Disabling an ENABLED port finishes every request of it FLUSHED, oldest first, with its DONE; the region counts and the
pins they held fall, and a drain they held up completes. On another port the setting alone changes (2.5). The
notices leave in the window of the write, whose state is `u`: in a window begun since the last decision those of the window
before have left, and where the last window begun still waits for its decision, that window runs (2.4, 2.5; the sender's
word, log 2). -/
def Obligations.PortDisableFlushes : Prop :=
  ∀ (s : State) (p : PortId) (next : Bool), s.Released →
    let u := s.inWindow next
    (next = true → s.decided = true →
      u = { s with
        decided := false
        ports := s.ports.map fun k =>
          { k with messageTaken := false, outbound := [], outboundLast := k.outbound } }) ∧
    (next = false ∨ s.decided = false → u = s) ∧
    ((s.ports.get p).state = .enabled →
      ∃ t, exec (.portDisable p next) s = .next t ∧
        t = { u with
          host := { s.host with portSelect := p }
          ports := put u.ports p
            { u.ports.get p with
              enabled := false
              queue := []
              outbound := (u.ports.get p).outbound ++
                (s.ports.get p).queue.map fun r => .done r.tag .flushed r.burstsDone r.preempted }
          regions := t.regions
          banks := t.banks
          mode := t.mode
          events := t.events } ∧
        s.CountsLowered t (s.ports.get p).queue ∧ s.PinsLowered t (s.ports.get p).queue ∧ s.Settled t) ∧
    ((s.ports.get p).state ≠ .enabled →
      exec (.portDisable p next) s =
        .next { u with
          host := { s.host with portSelect := p }
          ports := put u.ports p { u.ports.get p with enabled := false } })

/-- PRST asserted on a port that is ENABLED or DISABLED: IN_RESET, every request finished with no notice and no event of its
own; on a port IN_RESET nothing changes. PRST deasserted: the port is in the state its setting names (2.6). -/
def Obligations.PrstSilencesPort : Prop :=
  ∀ (s : State) (p : PortId),
    ((s.ports.get p).prst = false →
      ∃ t, exec (.prstAssert p) s = .next t ∧
        t = { s with
          ports := put s.ports p { s.ports.get p with prst := true, queue := [] }
          regions := t.regions
          banks := t.banks
          mode := t.mode
          events := t.events } ∧
        (t.ports.get p).state = .inReset ∧
        s.CountsLowered t (s.ports.get p).queue ∧ s.PinsLowered t (s.ports.get p).queue ∧ s.Settled t) ∧
    ((s.ports.get p).prst = true → exec (.prstAssert p) s = .next s) ∧
    ∃ t, exec (.prstDeassert p) s = .next t ∧
      t = { s with ports := put s.ports p { s.ports.get p with prst := false } } ∧
      (t.ports.get p).state = if (s.ports.get p).enabled = true then .enabled else .disabled

/-- A REQUEST that passes every check is filed at the tail of its port's queue with the next stamp, its region counts it,
and ACCEPT is sent (2.2, 3.1). The window the frame arrives in is the sender's word (log 2); `u` is the state in it. -/
def Obligations.RequestFiled : Prop :=
  ∀ (s : State) (p : PortId) (frame : Arrival) (r : RequestFields) (i : Fin 16),
    let u := s.atArrival frame
    s.Released → frame.metPrst = false → (s.ports.get p).state = .enabled → (u.ports.get p).messageTaken = false →
    parseFrame frame.bytes = .request r → s.AdmitsClients → (∀ q ∈ (s.ports.get p).queue, q.tag ≠ r.tag) →
    (s.ports.get p).queue.length < 8 → r.firstBurst.val + r.length ≤ 64 →
    s.RegionsDisjoint → (s.regions.get i).covers r.bank (r.row.val / 16) = true → (s.regions.get i).cls ≠ .off →
    (s.regions.get i).permits (.port p) r.kind = true →
    exec (.request p frame) s =
      .next { u with
        ports := put u.ports p
          { u.ports.get p with
            messageTaken := true
            queue := (s.ports.get p).queue ++
              [{ origin := .port p, tag := r.tag, kind := r.kind, bank := r.bank, row := r.row,
                 firstBurst := r.firstBurst, word := none, length := r.length, region := i, stamp := s.stamp,
                 state := .queued, burstsDone := 0, age := 0, preempted := false, data := none }]
            outbound := (u.ports.get p).outbound ++ [.accept r.tag] }
        stamp := s.stamp + 1
        regions := put s.regions i { s.regions.get i with refCount := (s.regions.get i).refCount + 1 } }

/-- A REQUEST is refused with the reason of the first check that fails, in the order PORT_DISABLED, NOT_RUNNING, HELD,
DUP_TAG, QUEUE_FULL, ROW_SPAN, NO_REGION, PARKED, DENIED; the last three post ACCESS_DENIED, and nothing is filed (3.1; the
window of the frame is log 2). -/
def Obligations.RequestRefusedInOrder : Prop :=
  ∀ (s : State) (p : PortId) (frame : Arrival) (r : RequestFields),
    let u := s.atArrival frame
    s.Released → frame.metPrst = false → (u.ports.get p).messageTaken = false → parseFrame frame.bytes = .request r →
    let refused (reason : Reason) : State := u.answered p [.refuse r.tag reason]
    let enabled := (s.ports.get p).state = .enabled
    let freeTag := ∀ q ∈ (s.ports.get p).queue, q.tag ≠ r.tag
    let room := (s.ports.get p).queue.length < 8
    let inRow := r.firstBurst.val + r.length ≤ 64
    ((s.ports.get p).state = .disabled → exec (.request p frame) s = .next (refused .portDisabled)) ∧
    (enabled → s.mode.sched = .stopped ∨ s.mode.sched = .init →
      exec (.request p frame) s = .next (refused .notRunning)) ∧
    (enabled → s.HoldsClients → exec (.request p frame) s = .next (refused .held)) ∧
    (enabled → s.AdmitsClients → ¬freeTag → exec (.request p frame) s = .next (refused .dupTag)) ∧
    (enabled → s.AdmitsClients → freeTag → ¬room → exec (.request p frame) s = .next (refused .queueFull)) ∧
    (enabled → s.AdmitsClients → freeTag → room → ¬inRow → exec (.request p frame) s = .next (refused .rowSpan)) ∧
    (enabled → s.AdmitsClients → freeTag → room → inRow →
      (∀ i, (s.regions.get i).covers r.bank (r.row.val / 16) = false) →
      exec (.request p frame) s =
        .next { refused .noRegion with events := (s.post .accessDenied .none (some r.tag) (p.val + 16)).events }) ∧
    ∀ i, enabled → s.AdmitsClients → freeTag → room → inRow → s.RegionsDisjoint →
      (s.regions.get i).covers r.bank (r.row.val / 16) = true →
      ((s.regions.get i).cls = .off →
        exec (.request p frame) s =
          .next { refused .parked with
            events := (s.post .accessDenied (.region i) (some r.tag) (p.val + 32)).events }) ∧
      ((s.regions.get i).cls ≠ .off → (s.regions.get i).permits (.port p) r.kind = false →
        exec (.request p frame) s =
          .next { refused .denied with
            events := (s.post .accessDenied (.region i) (some r.tag) (p.val + 48)).events })

/-- A CANCEL on an ENABLED port finishes the record with its tag CANCELLED, the order of the rest kept, and a drain it held
up completes; where no record carries the tag, and on a DISABLED port, it is ignored (2.2, 2.4, 3.4; the window of the frame
is log 2). -/
def Obligations.CancelFinishesItsRecord : Prop :=
  ∀ (s : State) (p : PortId) (frame : Arrival) (tag : Fin 16),
    let u := s.atArrival frame
    s.Released → frame.metPrst = false → (u.ports.get p).messageTaken = false → parseFrame frame.bytes = .cancel tag →
    (∀ pre r post, (s.ports.get p).state = .enabled → (s.ports.get p).queue = pre ++ r :: post → r.tag = tag →
      (∀ q ∈ pre, q.tag ≠ tag) →
      ∃ t, exec (.cancel p frame) s = .next t ∧
        t = { u with
          ports := put u.ports p
            { u.ports.get p with
              messageTaken := true
              queue := pre ++ post
              outbound := (u.ports.get p).outbound ++ [.done tag .cancelled r.burstsDone r.preempted] }
          regions := t.regions
          banks := t.banks
          mode := t.mode
          events := t.events } ∧
        s.CountsLowered t [r] ∧ s.PinsLowered t [r] ∧ s.Settled t) ∧
    ((s.ports.get p).state = .enabled → (∀ q ∈ (s.ports.get p).queue, q.tag ≠ tag) →
      exec (.cancel p frame) s = .next (u.answered p [])) ∧
    ((s.ports.get p).state = .disabled → exec (.cancel p frame) s = .next (u.answered p []))

/-- A frame with an unknown kind code, a frame shorter than its kind's length and a frame of any kind in a window in which
the port has taken a message are discarded with PROTOCOL_ERROR and their kind code; a port IN_RESET ignores every frame, and
one that PRST met is discarded with no event (2.2, 2.6, 10.8; which discarded frames count as the window's message is log
11). A frame that arrives in a window begun since the last decision finds its port ready for a message; where no decision
has been taken since the last window began, that window still runs (the sender's word, log 2, log 31). -/
def Obligations.FrameDiscardedOrIgnored : Prop :=
  ∀ (s : State) (p : PortId) (frame : Arrival), s.Released →
    let u := s.atArrival frame
    let discarded (code : Byte) (v : State) : State :=
      { v with events := (s.post .protocolError (.port p) none code.toNat).events }
    (frame.inNextWindow = true → s.decided = true →
      u = { s with
        decided := false
        ports := s.ports.map fun k =>
          { k with messageTaken := false, outbound := [], outboundLast := k.outbound } }) ∧
    (frame.inNextWindow = false ∨ s.decided = false → u = s) ∧
    (frame.metPrst = true →
      ∀ c ∈ [Instr.request p frame, .cancel p frame, .discardedFrame p frame], exec c s = .next u) ∧
    (frame.metPrst = false → (s.ports.get p).state ≠ .inReset → (u.ports.get p).messageTaken = true →
      ∀ c ∈ [Instr.request p frame, .cancel p frame, .discardedFrame p frame],
        exec c s = .next (discarded (frame.bytes.headD 0) u)) ∧
    (frame.metPrst = false → (s.ports.get p).state ≠ .inReset → (u.ports.get p).messageTaken = false →
      (∀ code, parseFrame frame.bytes = .unknown code →
        exec (.discardedFrame p frame) s = .next (discarded code (u.answered p []))) ∧
      ∀ code, parseFrame frame.bytes = .short code → exec (.discardedFrame p frame) s = .next (discarded code u)) ∧
    ((s.ports.get p).state = .inReset →
      ∀ c ∈ [Instr.request p frame, .cancel p frame, .discardedFrame p frame], exec c s = .next u)

/-- Decode and encode of the link's inbound messages agree: every REQUEST and CANCEL has its fields in the bits of its
layout and is read back from its frame, whatever stands in the bits and bytes that the layout leaves unused; a first byte
that names no kind and a frame cut short are read as such. Every notice is sent with its kind code and its fields in the bits
of its layout (10.8; that preempted shows as 1 is log 34; the unused bits of a notice are log 33 and not stated). -/
def Obligations.InboundFramesRoundTrip : Prop :=
  (∀ (r : RequestFields) (b1 b3 b4 : Byte) (more : List Byte), 1 ≤ r.length → r.length ≤ 16 →
    b1 &&& 0x7F#8 = 0#8 → b3 &&& 0xF7#8 = 0#8 → b4 &&& 0x3F#8 = 0#8 →
    ∃ c1 c2 c3 c4, encodeRequest r = [0x01#8, c1, c2, c3, c4] ∧
      c1.toNat = r.tag.val + 16 * (match r.kind with | .read => 0 | .write => 1) + 32 * r.bank.val ∧
      c2.toNat = r.row.val % 256 ∧ c3.toNat = r.row.val / 256 + 16 * (r.length - 1) ∧ c4.toNat = r.firstBurst.val ∧
      parseFrame ([0x01#8, c1 ||| b1, c2, c3 ||| b3, c4 ||| b4] ++ more) = .request r) ∧
  (∀ (tag : Fin 16) (b1 : Byte) (more : List Byte), b1 &&& 0x0F#8 = 0#8 →
    ∃ c1, encodeCancel tag = [0x02#8, c1] ∧ c1.toNat = tag.val ∧ parseFrame ([0x02#8, c1 ||| b1] ++ more) = .cancel tag) ∧
  (∀ (code : Byte) (more : List Byte), code ≠ 0x01#8 → code ≠ 0x02#8 → parseFrame (code :: more) = .unknown code) ∧
  parseFrame [] = .short 0 ∧ parseFrame [0x02#8] = .short 0x02#8 ∧
  (∀ more : List Byte, more.length ≤ 3 → parseFrame (0x01#8 :: more) = .short 0x01#8) ∧
  (∀ tag, ∃ b1, (Notice.accept tag).frame = [0x81#8, b1] ∧ b1.toNat % 16 = tag.val) ∧
  (∀ tag reason, reason ≠ .flushed → ∃ b1 code, (Notice.refuse tag reason).frame = [0x82#8, b1] ∧
    [Reason.portDisabled, .notRunning, .held, .dupTag, .queueFull, .rowSpan, .noRegion, .parked, .denied][code]? =
      some reason ∧
    b1.toNat % 16 = tag.val ∧ b1.toNat / 16 = code + 1) ∧
  (∀ tag index, index ≤ 15 → ∃ b1, (Notice.beat tag index).frame = [0x83#8, b1] ∧
    b1.toNat % 16 = tag.val ∧ b1.toNat / 16 = index) ∧
  ∀ tag status bursts preempted, bursts ≤ 16 → ∃ b1 b2 code,
    (Notice.done tag status bursts preempted).frame = [0x84#8, b1, b2] ∧
    [FinishStatus.ok, .cancelled, .flushed, .stalled][code]? = some status ∧
    b1.toNat % 16 = tag.val ∧ b1.toNat / 16 % 4 = code ∧ b1.getLsbD 6 = preempted ∧ b2.toNat % 32 = bursts

/-! ### Windows of the DRAM command bus -/

/-- A window carries the command its decision chooses on the samples of the window, or nothing, and the wheel and the
round-robin pointer follow the choice (6.1, 6.2, 6.5; the words on the bus: 1.3, 5.3, 7.4, 7.8). In DRAIN_SWITCH the wheel
wrap of a window after whose command the drain is complete flips the pages: the selector toggles, the state becomes the return
state, the credit is clamped and its timer restarts, SWITCH_DONE is posted; at any other window the switch stays pending
(8.6). An expiry due at the flip is taken in it on the accounts that the window's command leaves, its posts ahead of
SWITCH_DONE (7.2, 7.9, log 26); a refill due is taken after it (log 3, log 23). -/
def Obligations.WindowCarriesItsDecision : Prop :=
  ∀ (s : State) (ready : BitVec 4) (drive : Option BurstData), s.Released →
    let d := s.sampleReady ready
    ∃ t, exec (.windowDecision ready drive) s = .next t ∧
      t.arbiter.wheelPosition =
        (if s.arbiter.wheelPosition + 1 < s.runPage.wheelLength then s.arbiter.wheelPosition + 1 else 0) ∧
      (∀ ret, s.PagesSound → s.ConditioningSound → s.mode.sched = .drainSwitch ret →
        let flips := s.FlipsIn ready
        let paid := s.paidBy d.choose
        let edit := s.mode.pages.get (s.mode.runSelect + 1)
        (¬flips → t.mode = s.mode) ∧
        (flips →
          t.mode =
            { s.mode with
              runSelect := s.mode.runSelect + 1
              sched := match ret with | .run => .run | .held => .held } ∧
          (∀ left,
            (left = match d.choose with
              | some (_, .refresh _) => s.credit.count - 1
              | _ => s.credit.count) →
            let clamped := min left edit.creditCapacity
            t.credit.count =
              if s.credit.refillDue = true ∧ clamped < edit.creditCapacity then clamped + 1 else clamped) ∧
          t.credit.refillTimer = 1 ∧ (t.credit.refillDue = true ↔ edit.refillPeriod ≤ 1) ∧
          (s.refresh.elapsed < edit.refreshInterval →
            t.refresh.elapsed = s.refresh.elapsed + 1 ∧ t.refresh.accounts = paid.refresh.accounts ∧
            t.dram = paid.dram ∧ (∀ b, (t.banks.get b).pins = (s.banks.get b).pins) ∧
            t.events = (s.post .switchDone .none none (s.mode.runSelect + 1).val).events) ∧
          (edit.refreshInterval ≤ s.refresh.elapsed → s.AccountsInRange → s.PointersNeedRefresh →
            t.refresh.elapsed = 1 ∧ paid.AccountsRaised t ∧ paid.PassedRowsLost t ∧
            (∀ b, (t.banks.get b).pins = if (paid.account b).debt = 7 then 0 else (s.banks.get b).pins) ∧
            t.events =
              ((s.postExpiry paid fun _ => 0).post .switchDone .none none (s.mode.runSelect + 1).val).events))) ∧
      (d.choose = none → t.bus = none ∧ t.arbiter.pointer = s.arbiter.pointer) ∧
      ∀ ptr a, d.choose = some (ptr, a) →
        t.arbiter.pointer = ptr ∧
        match a with
        | .closeAll => t.bus = some .closeAll
        | .condition b => t.bus = some (.refresh b 0)
        | .refresh b => t.bus = some (.refresh b (s.account b).pointer)
        | .close b => t.bus = some (.close b)
        | .openFor b row => t.bus = some (.openRow b (s.translate b row))
        | .burst _ r =>
          let position := r.firstBurst.val + r.burstsDone
          let phys := ((s.banks.get r.bank).physRow?).getD 0
          let held (k : Fin 4) := s.dram.read (dramAddr r.bank phys (4 * position + k.val))
          (r.kind = .read →
            t.bus = some (.read r.bank position (BitVec.allOnes 4) #v[held 0, held 1, held 2, held 3])) ∧
          (r.kind = .write → r.word = none →
            t.bus = some (.write r.bank position (BitVec.allOnes 4)
              (match drive with
                | some w => #v[some w.word0, some w.word1, some w.word2, some w.word3]
                | none => #v[none, none, none, none]))) ∧
          ∀ k, r.kind = .write → r.word = some k →
            ∃ data, t.bus = some (.write r.bank position (BitVec.ofNat 4 (2 ^ k.val)) data) ∧ data.get k = r.data

/-- What a decision may choose at all: CLOSE-ALL and the conditioning refreshes in INIT alone; an OPEN or a REFRESH on a
CLOSED bank with a credit, a CLOSE on an OPEN bank without pins whose timers have run out, a burst on the open row of a bank
with no close pending mark and a debt below 8, under a high READY sample; and, for a record, only where it may act
(3.5, 5.4, 6.3, 6.4, 6.5). -/
def Obligations.ChosenActionIsAllowed : Prop :=
  ∀ (s : State) (ptr : Requester) (a : Action), s.PagesSound → s.choose = some (ptr, a) →
    match a with
    | .closeAll => s.mode.sched = .init ∧ s.refresh.conditioning = .clearing
    | .condition b =>
      s.mode.sched = .init ∧ (∃ n, s.refresh.conditioning = .conditioning n ∧ b.val = n % 4) ∧
      (s.banks.get b).state = .closed ∧ 1 ≤ s.credit.count
    | .refresh b =>
      s.mode.sched.running = true ∧ (s.banks.get b).state = .closed ∧ 1 ≤ s.credit.count ∧ -4 < (s.account b).debt ∧
      (¬0 < (s.account b).debt →
        s.pointerNeedsRefresh b = true ∧ 2 ≤ s.credit.count ∧ ∀ r ∈ s.outstanding, r.bank ≠ b)
    | .close b =>
      s.mode.sched.running = true ∧ (∃ row phys, (s.banks.get b).state = .opened row phys) ∧
      (s.banks.get b).pins = 0 ∧ (s.banks.get b).rowMin = none ∧ (s.banks.get b).writeRecovery = none
    | .openFor b row =>
      s.mode.sched.running = true ∧ (s.banks.get b).state = .closed ∧ 1 ≤ s.credit.count ∧
      ∃ who older r younger, s.queueOf who = older ++ r :: younger ∧ r.bank = b ∧ r.row = row ∧
        r.isActive = false ∧ s.MayAct who older r
    | .burst who r =>
      s.mode.sched.running = true ∧ (∃ phys, (s.banks.get r.bank).state = .opened r.row phys) ∧
      (s.banks.get r.bank).closePending = false ∧ (s.account r.bank).debt < 8 ∧
      (∀ p, who = .port p → (s.ports.get p).ready = true) ∧
      ∃ older younger, s.queueOf who = older ++ r :: younger ∧ s.MayAct who older r

/-- The order of a decision: nothing in STOPPED; the conditioning's command in INIT; elsewhere the first that exists of
critical work, a close-pending close, the owner's turn, urgent work, the overdue choice, a drain close, a row-hit action and
a start action by round-robin, a pull-in refresh and an idle close, each as its rule finds it; the window is idle where none
exists, and the round-robin pointer moves to the owner that a round-robin serves (6.4, 6.5). -/
def Obligations.DecisionsFollowTheOrder : Prop :=
  ∀ s : State,
    let kept (a : Action) := s.choose = some (s.arbiter.pointer, a)
    (s.mode.sched = .stopped → s.choose = none) ∧
    (s.mode.sched = .init →
      (s.refresh.conditioning = .clearing → kept .closeAll) ∧
      (∀ n (b : BankId), s.refresh.conditioning = .conditioning n → b.val = n % 4 →
        (s.CanOpen b → kept (.condition b)) ∧ (¬s.CanOpen b → s.choose = none)) ∧
      (s.refresh.conditioning = .trailing → s.choose = none)) ∧
    (s.mode.sched.running = true →
      (∀ x, s.choose = some x → s.Decides x) ∧ (s.choose = none → ∀ x, ¬s.Decides x))

/-- A window in which no burst is issued and no record is stall-aborted, the wheel's last in DRAIN_SWITCH among them, with a
flip or without: at every queue the ages and stall counts rise; the host's registers, the tables, the pages and the stamp
stay (2.2, 2.4, 3.6, 3.7). A drain in DRAIN_HOLD that its command completes becomes HELD with HOLD_DONE (8.6), the last window
of conditioning becomes RUN with INIT_DONE, accounts at 0, the interval timer started (the window itself is counted, log 3),
undefined contents and no past of rows (7.8, log 15, log 30), a flip toggles the selector and takes the return
state (8.6; its posts and its expiry stand in the statement of the window's decision), and otherwise scheduler state and
events stay; the accounts stay but at a REFRESH and a flip. The rank changes in no window but one with a REFRESH, and then in
the OFF groups that the check after it passes (4.7, 7.5; the past of rows is log 30). The window runs on after its decision
(log 2). No interval expires here but in a flip; a stall abort and an expiry inside a window have statements of their own. -/
def Obligations.WindowWithoutBurstAtQueues : Prop :=
  ∀ (s : State) (ready : BitVec 4) (drive : Option BurstData), s.Released → s.PagesSound → s.ConditioningSound →
    s.NoAbort ready → s.NoExpiry ∨ s.FlipsIn ready →
    (∀ ptr who r, (s.sampleReady ready).choose ≠ some (ptr, .burst who r)) →
    let choice := (s.sampleReady ready).choose
    let conditioned := s.refresh.conditioning = .trailing ∧ (s.banks.get 3).state = .refreshing 0
    let drains := s.mode.sched = .drainHold ∧ s.DrainedBy choice
    let flips := s.FlipsIn ready
    let expires := flips ∧ (s.mode.pages.get (s.mode.runSelect + 1)).refreshInterval ≤ s.refresh.elapsed
    ∃ t, exec (.windowDecision ready drive) s = .next t ∧
      t = { s with
        decided := true
        ports := t.ports
        hostQueue := s.hostQueue.map (Record.waited false)
        banks := t.banks
        refresh := t.refresh
        credit := t.credit
        arbiter := t.arbiter
        mode := { s.mode with sched := t.mode.sched, runSelect := t.mode.runSelect }
        events := t.events
        bus := t.bus
        dram := t.dram
        history := t.history } ∧
      (∀ p, t.ports.get p = s.portWaited ready p) ∧
      (conditioned → t.mode.sched = .run ∧ t.events = (s.post .initDone .none none 0).events ∧ t.dram = [] ∧
        t.history = .powerOn ∧
        t.refresh =
          { accounts := Vector.replicate 4 { debt := 0, pointer := 0, oddPass := false }
            elapsed := 1
            conditioning := .idle }) ∧
      (¬conditioned →
        (¬flips → (∀ ptr b, choice ≠ some (ptr, .refresh b)) → t.refresh.accounts = s.refresh.accounts) ∧
        ((∀ ptr, choice ≠ some (ptr, .closeAll)) → (∀ ptr b, choice ≠ some (ptr, .condition b)) →
          t.refresh.conditioning = s.refresh.conditioning)) ∧
      (drains → t.mode.sched = .held ∧ t.events = (s.post .holdDone .none none 0).events) ∧
      (flips → t.mode.runSelect = s.mode.runSelect + 1 ∧
        (s.mode.sched = .drainSwitch .run → t.mode.sched = .run) ∧
        (s.mode.sched = .drainSwitch .held → t.mode.sched = .held)) ∧
      (¬flips → t.mode.runSelect = s.mode.runSelect) ∧
      (¬conditioned → ¬drains → ¬flips → t.mode.sched = s.mode.sched ∧ t.events = s.events) ∧
      (¬expires → (∀ ptr, choice ≠ some (ptr, .closeAll)) → ∀ b, (t.banks.get b).pins = (s.banks.get b).pins) ∧
      (¬conditioned → (∀ ptr b, choice ≠ some (ptr, .refresh b)) →
        t.history = s.history ∧ (¬expires → t.dram = s.dram)) ∧
      ∀ ptr b, choice = some (ptr, .refresh b) → ¬expires → ∀ a,
        let first := if (s.account b).pointer < 128 then (s.account b).pointer + 1 else 0
        let lost := ∃ n, first ≤ n ∧ n < (t.account b).pointer ∧ classOf s.regions b n = .off ∧ inGroup b n a = true
        (lost → t.dram.read a = none) ∧ (¬lost → t.dram.read a = s.dram.read a)

/-- A window passes at every timer: at a bank to which it carries no command, each timer loses a window, and one with none
left runs out, and so does each timer of a burst's bank that the burst does not restart (5.4); the refill timer and the
interval timer count the window, and the refill or the expiry that falls in it is taken; no command but OPEN and REFRESH takes
a credit (5.2, 6.3, 7.2, 7.8; that they are taken within the window is log 3, the refill's mark log 23). -/
def Obligations.WindowPassesAtTimers : Prop :=
  ∀ (s : State) (ready : BitVec 4) (drive : Option BurstData), s.Released →
    ∃ t, exec (.windowDecision ready drive) s = .next t ∧
      (∀ b, (∀ ptr a, (s.sampleReady ready).choose = some (ptr, a) → ¬a.Names b) →
        let old := s.banks.get b
        let new := t.banks.get b
        (∀ row phys n, old.state = .opening row phys (n + 1) → new.state = .opening row phys n) ∧
        (∀ row phys, old.state = .opening row phys 0 → new.state = .opened row phys) ∧
        (∀ n, old.state = .closing (n + 1) → new.state = .closing n) ∧
        (∀ n, old.state = .refreshing (n + 1) → new.state = .refreshing n) ∧
        (old.state = .closing 0 ∨ old.state = .refreshing 0 → new.state = .closed) ∧
        (∀ row phys, old.state = .closed ∨ old.state = .opened row phys → new.state = old.state) ∧
        new.rowMin = timerPassed old.rowMin ∧ new.writeRecovery = timerPassed old.writeRecovery ∧
        new.closePending = old.closePending) ∧
      (s.PagesSound → ∀ ptr who r, (s.sampleReady ready).choose = some (ptr, .burst who r) → s.BurstBankPassed t r) ∧
      (¬s.FlipsIn ready → s.PagesSound → s.ConditioningSound →
        (s.credit.refillDue = false → t.credit.refillTimer = s.credit.refillTimer + 1 ∧
          (t.credit.refillDue = true ↔ s.runPage.refillPeriod ≤ s.credit.refillTimer + 1)) ∧
        (s.credit.refillDue = true → t.credit.refillTimer = 1 ∧
          (t.credit.refillDue = true ↔ s.runPage.refillPeriod ≤ 1)) ∧
        ((∀ ptr a, (s.sampleReady ready).choose = some (ptr, a) → ¬a.TakesCredit) →
          t.credit.count =
            if s.credit.refillDue = true ∧ s.credit.count < s.runPage.creditCapacity then s.credit.count + 1
            else s.credit.count) ∧
        (s.mode.sched.running = true →
          t.refresh.elapsed =
            if s.runPage.refreshInterval ≤ s.refresh.elapsed then 1 else s.refresh.elapsed + 1) ∧
        (s.mode.sched.running = false →
          t.refresh.elapsed =
            if s.refresh.conditioning = .trailing ∧ (s.banks.get 3).state = .refreshing 0 then 1
            else s.refresh.elapsed))

/-- A window that carries OPEN, CLOSE, REFRESH or CLOSE-ALL starts the operation at its bank with one window of its timers
gone at the window's end, and the timers it does not start lose theirs; OPEN and REFRESH take a credit, and a REFRESH against
the debt pays a unit, steps the pointer and has the check for groups to retire follow (5.3, 6.3, 7.3, 7.4, 7.5, 7.8). The credit count is that of the window's end: a refill due in the window and not yet taken is taken
after the decision, in the same command (log 3; its mark is log 23). A REFRESH counts in the past of the rows it refreshes
(1.5, log 30). The accounts are those of a window without an expiry and a flip, whose part in them has statements of its own,
as has the credit at a flip. -/
def Obligations.WindowStartsBankOperation : Prop :=
  ∀ (s : State) (ready : BitVec 4) (drive : Option BurstData) (ptr : Requester) (a : Action),
    s.Released → s.PagesSound → s.ConditioningSound →
    (s.sampleReady ready).choose = some (ptr, a) →
    let page := s.runPage
    let old := s.banks.get
    ∃ t, exec (.windowDecision ready drive) s = .next t ∧
      let quiet := s.NoExpiry ∧ ¬s.FlipsIn ready
      let takesCredit := ¬s.FlipsIn ready → t.credit.count =
        if s.credit.refillDue = true ∧ s.credit.count - 1 < page.creditCapacity then s.credit.count - 1 + 1
        else s.credit.count - 1
      let kept (b : BankId) := (t.banks.get b).rowMin = timerPassed (old b).rowMin ∧
        (t.banks.get b).writeRecovery = timerPassed (old b).writeRecovery ∧
        (t.banks.get b).closePending = (old b).closePending
      match a with
      | .openFor b row =>
        (t.banks.get b).state = .opening row (s.translate b row) (page.openDelay - 1) ∧
        (t.banks.get b).rowMin = some (page.rowMin - 1) ∧
        (t.banks.get b).writeRecovery = timerPassed (old b).writeRecovery ∧
        (t.banks.get b).closePending = (old b).closePending ∧ takesCredit ∧
        (quiet → t.refresh.accounts = s.refresh.accounts)
      | .close b =>
        (t.banks.get b).state = .closing (page.closeDelay - 1) ∧ (t.banks.get b).closePending = false ∧
        (t.banks.get b).rowMin = timerPassed (old b).rowMin ∧
        (t.banks.get b).writeRecovery = timerPassed (old b).writeRecovery ∧
        (quiet → t.refresh.accounts = s.refresh.accounts)
      | .refresh b =>
        (t.banks.get b).state = .refreshing (page.refreshTime - 1) ∧ takesCredit ∧ kept b ∧
        (quiet → t.refresh.accounts = (s.paidBy (some (ptr, .refresh b))).refresh.accounts) ∧
        (quiet → ∀ c, c ≠ b → t.account c = s.account c) ∧
        let paid : Account :=
          if (s.account b).pointer < 128 then
            { debt := (s.account b).debt - 1
              pointer := (s.account b).pointer + 1
              oddPass := (s.account b).oddPass }
          else { debt := (s.account b).debt - 1, pointer := 0, oddPass := !(s.account b).oddPass }
        (quiet → paid.debt ≤ 0 ∨ needsRefresh (classOf s.regions b paid.pointer) paid.oddPass = true → t.account b = paid) ∧
        (∀ c k, (t.history.freed.get c).get k = true ↔
          (s.history.freed.get c).get k = true ∧ ¬(c = b ∧ (s.account b).pointer = 128)) ∧
        (∀ i, t.history.unrefreshed.get i = true ↔
          s.history.unrefreshed.get i = true ∧
            ¬((s.remap.get i).bank = b ∧ (s.remap.get i).faultyRow.val / 16 = (s.account b).pointer ∧
              classOf s.regions b (s.account b).pointer ≠ .off))
      | .condition b =>
        (t.banks.get b).state = .refreshing (page.refreshTime - 1) ∧ takesCredit ∧ kept b ∧
        t.refresh.accounts = s.refresh.accounts ∧
        ∀ n, s.refresh.conditioning = .conditioning n →
          t.refresh.conditioning = if n + 1 < 32 then .conditioning (n + 1) else .trailing
      | .closeAll =>
        (∀ b, t.banks.get b =
          { state := .closing (max page.closeDelay page.refreshTime - 1)
            rowMin := none
            writeRecovery := none
            pins := 0
            closePending := false }) ∧
        t.refresh.conditioning = .conditioning 0
      | .burst _ _ => True

/-- A window that carries a burst for a client record: BEAT is sent, and DONE OK after it if the burst was the record's last;
the record becomes or stays ACTIVE with stall count 0 or finishes; the pins, the region's count, the bank's timers
and the rank follow; the other queues count the window (1.3, 2.4, 3.4, 5.4, 5.5). The word a client fails to drive is
undefined (2.3; the driven words are an operand, log 14). The window has begun by its decision and runs on after it (log 2). -/
def Obligations.ClientBurstMoves : Prop :=
  ∀ (s : State) (ready : BitVec 4) (drive : Option BurstData) (ptr : Requester) (p : PortId) (r : Record),
    s.Released → s.PagesSound → s.ConditioningSound → s.QueuesSound → s.dram.wf = true → s.NoAbort ready → s.NoExpiry →
    (s.sampleReady ready).choose = some (ptr, .burst (.port p) r) →
    let last := r.burstsDone + 1 = r.length
    let moved : Record := { r with state := .active 0, burstsDone := r.burstsDone + 1 }
    let at4 (k : Fin 4) := dramAddr r.bank (((s.banks.get r.bank).physRow?).getD 0)
      (4 * (r.firstBurst.val + r.burstsDone) + k.val)
    ∃ t, exec (.windowDecision ready drive) s = .next t ∧
      t = { s with
        decided := true
        ports := t.ports
        hostQueue := s.hostQueue.map (Record.waited false)
        regions := t.regions
        banks := t.banks
        refresh := t.refresh
        credit := t.credit
        arbiter := t.arbiter
        bus := t.bus
        dram := t.dram } ∧
      t.refresh.accounts = s.refresh.accounts ∧
      (∀ q, q ≠ p → t.ports.get q = s.portWaited ready q) ∧
      (¬last →
        t.ports.get p =
          (s.beginWindow.ports.get p).afterDecision true
            ((s.ports.get p).queue.map fun q => if q.tag = r.tag then moved else q.waited false)
            [.beat r.tag r.burstsDone] ∧
        t.regions = s.regions ∧
        (t.banks.get r.bank).pins = (s.banks.get r.bank).pins + (if r.isActive = true then 0 else 1)) ∧
      (last →
        t.ports.get p =
          (s.beginWindow.ports.get p).afterDecision true
            (((s.ports.get p).queue.filter fun q => q.tag ≠ r.tag).map (Record.waited false))
            [.beat r.tag r.burstsDone, .done r.tag .ok (r.burstsDone + 1) r.preempted] ∧
        s.CountsLowered t [r] ∧
        (t.banks.get r.bank).pins = (s.banks.get r.bank).pins - (if r.isActive = true then 1 else 0)) ∧
      (∀ b, b ≠ r.bank → (t.banks.get b).pins = (s.banks.get b).pins) ∧
      s.BurstBankPassed t r ∧
      (r.kind = .read → t.dram = s.dram) ∧
      (r.kind = .write → r.word = none →
        (∀ w, drive = some w →
          t.dram.read (at4 0) = some w.word0 ∧ t.dram.read (at4 1) = some w.word1 ∧
          t.dram.read (at4 2) = some w.word2 ∧ t.dram.read (at4 3) = some w.word3) ∧
        (drive = none → ∀ k, t.dram.read (at4 k) = none) ∧
        ∀ a, (∀ k, a ≠ at4 k) → t.dram.read a = s.dram.read a)

/-- A window that carries the burst of a host record: the record finishes, its slot becomes DONE, a READ leaves the sampled
word in the slot's data register and a WRITE stores the one captured word; the rest of the host queue counts the window, the
region's count falls, and the bank's timers follow (1.3, 3.4, 5.4, 10.6). What a READ of undefined
contents leaves is a free value (log 13). The window has begun by its decision and runs on after it (log 2). -/
def Obligations.HostBurstCompletesSlot : Prop :=
  ∀ (s : State) (ready : BitVec 4) (drive : Option BurstData) (ptr : Requester) (k : SlotId) (r : Record) (word : Fin 4)
    (rest : List Record),
    s.Released → s.PagesSound → s.ConditioningSound → s.dram.wf = true → s.NoAbort ready → s.NoExpiry →
    (s.sampleReady ready).choose = some (ptr, .burst .host r) →
    s.hostQueue = r :: rest → r.origin = .slot k → r.state = .queued → r.word = some word →
    let a := dramAddr r.bank (((s.banks.get r.bank).physRow?).getD 0)
      (4 * (r.firstBurst.val + r.burstsDone) + word.val)
    ∃ t, exec (.windowDecision ready drive) s = .next t ∧
      t = { s with
        decided := true
        host := { s.host with
          slots := put s.host.slots k
            { s.host.slots.get k with
              state := .done
              data := if r.kind = .read then (s.dram.read a).getD (Config.undefinedWord s.freeCount)
                else (s.host.slots.get k).data } }
        ports := t.ports
        hostQueue := rest.map (Record.waited false)
        regions := t.regions
        banks := t.banks
        refresh := t.refresh
        credit := t.credit
        arbiter := t.arbiter
        bus := t.bus
        dram := t.dram
        freeCount := t.freeCount } ∧
      t.refresh.accounts = s.refresh.accounts ∧
      (∀ p, t.ports.get p = s.portWaited ready p) ∧
      s.CountsLowered t [r] ∧
      (∀ b, (t.banks.get b).pins = (s.banks.get b).pins) ∧
      s.BurstBankPassed t r ∧
      (r.kind = .read → t.dram = s.dram) ∧
      (r.kind = .write →
        t.dram.read a = r.data ∧ ∀ b, b ≠ a → t.dram.read b = s.dram.read b)

/-! ### The part's own timed happenings -/

/-- The running out of each bank timer and the refill: with no window left the state changes as the machine of the bank
gives, and nothing else does; in TRAILING the running out at bank 3 ends the conditioning, by whichever command it is taken
(5.2, 5.3, 6.3, 7.8; that CONDITIONING_END is that running out is log 6). The model's choices and inferences in it: where the
timer has windows left, nothing occurs (log 4); the refill is taken where the model's own mark stands, and takes the mark away
(log 23); the end of conditioning leaves the contents undefined (log 15) and the past of rows, the model's own record,
cleared (log 30). -/
def Obligations.TimersRunOut : Prop :=
  ∀ (s : State) (b : BankId), s.Released →
    let bank := s.banks.get b
    let become (st : BankState) : State := { s with banks := put s.banks b { bank with state := st } }
    let conditioned : State :=
      { s with
        banks := put s.banks 3 { s.banks.get 3 with state := .closed }
        refresh :=
          { accounts := Vector.replicate 4 { debt := 0, pointer := 0, oddPass := false }
            elapsed := 0
            conditioning := .idle }
        mode := { s.mode with sched := .run }
        events := (s.post .initDone .none none 0).events
        dram := []
        history := .powerOn }
    (∀ row phys, bank.state = .opening row phys 0 → exec (.openDelayExpiry b) s = .next (become (.opened row phys))) ∧
    ((∀ row phys, bank.state ≠ .opening row phys 0) → exec (.openDelayExpiry b) s = .next s) ∧
    (bank.state = .closing 0 → exec (.closeDelayExpiry b) s = .next (become .closed)) ∧
    (bank.state ≠ .closing 0 → exec (.closeDelayExpiry b) s = .next s) ∧
    (bank.state = .refreshing 0 → ¬(s.refresh.conditioning = .trailing ∧ b = 3) →
      exec (.refreshTimeExpiry b) s = .next (become .closed)) ∧
    (bank.state ≠ .refreshing 0 → exec (.refreshTimeExpiry b) s = .next s) ∧
    (s.refresh.conditioning = .trailing → (s.banks.get 3).state = .refreshing 0 →
      exec (.refreshTimeExpiry 3) s = .next conditioned ∧ exec .conditioningEnd s = .next conditioned) ∧
    (s.refresh.conditioning ≠ .trailing ∨ (s.banks.get 3).state ≠ .refreshing 0 → exec .conditioningEnd s = .next s) ∧
    (bank.rowMin = some 0 →
      exec (.rowMinExpiry b) s = .next { s with banks := put s.banks b { bank with rowMin := none } }) ∧
    (bank.rowMin ≠ some 0 → exec (.rowMinExpiry b) s = .next s) ∧
    (bank.writeRecovery = some 0 →
      exec (.writeRecoveryExpiry b) s = .next { s with banks := put s.banks b { bank with writeRecovery := none } }) ∧
    (bank.writeRecovery ≠ some 0 → exec (.writeRecoveryExpiry b) s = .next s) ∧
    (s.credit.refillDue = true →
      exec .refill s =
        .next { s with
          credit :=
            { count := if s.credit.count < s.runPage.creditCapacity then s.credit.count + 1 else s.credit.count
              refillTimer := 0
              refillDue := false } }) ∧
    (s.credit.refillDue = false → exec .refill s = .next s)

/-- The expiry of the interval timer: every debt below 8 rises by one, and at 8 it stays; a bank that rises to 8 has its
ACTIVE records suspended, its pins at 0 and PREEMPT posted with their number, one that stood at 8 has REFRESH_OVERRUN posted
with its pointer; a debt that rises to 1 before an unretained group falls back as the group is passed, and the words of a
group passed under OFF are undefined (3.4, 7.2, 7.5, 7.6, 4.7). Before the interval nothing occurs (log 4). Inside a window
that makes no flip, an expiry that is due and has not been taken is taken after the decision (log 3): the window is what it is
with the interval count at 0, followed by the expiry, and its count is 1. An expiry in a flip stands in the statement of the
window's decision. -/
def Obligations.IntervalExpiryRaisesDebts : Prop :=
  ∀ s : State, s.Released →
    let timed (n : Nat) (u : State) : State := { u with refresh := { u.refresh with elapsed := n } }
    (s.mode.sched.running = false ∨ s.refresh.elapsed < s.runPage.refreshInterval → exec .intervalExpiry s = .next s) ∧
    (s.mode.sched.running = true → s.runPage.refreshInterval ≤ s.refresh.elapsed → s.AccountsInRange →
      s.PointersNeedRefresh →
      let preempt (r : Record) : Record :=
        if r.isActive = true ∧ (s.account r.bank).debt = 7 then { r with state := .suspended, preempted := true } else r
      ∃ t, exec .intervalExpiry s = .next t ∧
        t = { s with
          ports := s.ports.map fun k => { k with queue := k.queue.map preempt }
          hostQueue := s.hostQueue.map preempt
          banks := t.banks
          refresh := t.refresh
          events := t.events
          dram := t.dram } ∧
        t.refresh.elapsed = 0 ∧ t.refresh.conditioning = s.refresh.conditioning ∧
        s.AccountsRaised t ∧ s.PassedRowsLost t ∧
        (∀ b, t.banks.get b =
          { s.banks.get b with pins := if (s.account b).debt = 7 then 0 else (s.banks.get b).pins }) ∧
        t.events = (s.postExpiry s s.activeOn).events) ∧
    ∀ (ready : BitVec 4) (drive : Option BurstData), s.PagesSound → s.ConditioningSound →
      s.mode.sched.running = true → s.runPage.refreshInterval ≤ s.refresh.elapsed → ¬s.FlipsIn ready →
      ∃ u v, exec (.windowDecision ready drive) (timed 0 s) = .next u ∧
        exec .intervalExpiry (timed s.refresh.elapsed u) = .next v ∧
        exec (.windowDecision ready drive) s = .next (timed 1 v)

/-- A stall abort: the record finishes STALLED with its DONE, STALL_ABORT is posted with its tag and its bursts done, its
bank keeps its row open, and a drain it held up completes (3.7). Taken ahead of its window's decision it shows the port's
sample low (log 5), and the window of that decision has begun (log 2); where the count would not reach the limit nothing
occurs (log 4). Inside a window in which no interval expires: the window is what it is with the counts that reach the limit at
0, but that each of their records has finished STALLED with its DONE, its STALL_ABORT post, and its part in the region counts
and pins; and a drain they held up completes (3.7, 8.6; several go by port, then by queue order, log 22). -/
def Obligations.StallAbortFinishesItsRecord : Prop :=
  ∀ (s : State) (p : PortId) (tag : Fin 16), s.Released →
    let u := s.beginWindow
    (∀ pre r post n, (s.ports.get p).queue = pre ++ r :: post → r.tag = tag → (∀ q ∈ pre, q.tag ≠ tag) →
      r.state = .active n → s.runPage.stallLimit ≤ n + 1 →
      ∃ t, exec (.stallAbort p tag) s = .next t ∧
        t = { u with
          ports := put u.ports p
            { u.ports.get p with
              ready := false
              sampledLow := true
              queue := pre ++ post
              outbound := (u.ports.get p).outbound ++ [.done tag .stalled r.burstsDone r.preempted] }
          regions := t.regions
          banks := t.banks
          mode := t.mode
          events := t.events } ∧
        s.CountsLowered t [r] ∧ s.PinsLowered t [r] ∧
        (s.post .stallAbort (.port p) (some tag) r.burstsDone).Settled t) ∧
    ((∀ r ∈ (s.ports.get p).queue, r.tag = tag → ∀ n, r.state = .active n → n + 1 < s.runPage.stallLimit) →
      exec (.stallAbort p tag) s = .next s) ∧
    ∀ (ready : BitVec 4) (drive : Option BurstData), s.PagesSound → s.ConditioningSound → s.QueuesSound → s.NoExpiry →
      let stalled := s.stalledIn ready
      let all := [(0 : PortId), 1, 2, 3].flatMap stalled
      ∃ v t, exec (.windowDecision ready drive) (s.unstalled ready) = .next v ∧
        exec (.windowDecision ready drive) s = .next t ∧
        t = { v with
          ports := t.ports
          regions := t.regions
          banks := t.banks
          mode := t.mode
          events := t.events } ∧
        (∀ q, t.ports.get q =
          { v.ports.get q with
            queue := (v.ports.get q).queue.filter fun r => ∀ x ∈ stalled q, r.tag ≠ x.tag
            outbound := (v.ports.get q).outbound ++
              (stalled q).map fun r => .done r.tag .stalled r.burstsDone r.preempted }) ∧
        v.CountsLowered t all ∧ v.PinsLowered t all ∧
        State.Settled ([(0 : PortId), 1, 2, 3].foldl (fun u q => (stalled q).foldl (State.postStall q) u) v) t
end

