-- ==== Sys2Proof/Laws/State.lean ====
section
/-! SUPPORT. The small lemmas of State: reading a fixed table after a write, and for each update of State one lemma
per field, true by unfolding the update. No later proof unfolds a record update. -/

namespace Sys2Proof

/-! ### Fixed tables -/

theorem get_put {α : Type} {n : Nat} (v : Vector α n) (i j : Fin n) (a : α) :
    (put v i a).get j = if i = j then a else v.get j := by
  simp only [put, Vector.get_eq_getElem, Vector.getElem_set, Fin.ext_iff]

@[simp] theorem get_put_self {α : Type} {n : Nat} (v : Vector α n) (i : Fin n) (a : α) : (put v i a).get i = a := by
  simp [get_put]

theorem get_put_of_ne {α : Type} {n : Nat} (v : Vector α n) {i j : Fin n} (h : i ≠ j) (a : α) :
    (put v i a).get j = v.get j := by
  simp [get_put, h]

@[simp] theorem put_put {α : Type} {n : Nat} (v : Vector α n) (i : Fin n) (a b : α) :
    put (put v i a) i b = put v i b := by
  apply Vector.ext
  intro j hj
  simp only [put, Vector.getElem_set]
  split <;> rfl

@[simp] theorem put_get_self {α : Type} {n : Nat} (v : Vector α n) (i : Fin n) : put v i (v.get i) = v := by
  apply Vector.ext
  intro j hj
  simp only [put, Vector.getElem_set, Vector.get_eq_getElem]
  split <;> simp_all

@[simp] theorem get_map {α β : Type} {n : Nat} (v : Vector α n) (f : α → β) (i : Fin n) :
    (v.map f).get i = f (v.get i) := by
  simp [Vector.get_eq_getElem]

@[simp] theorem get_mapIdx {α β : Type} {n : Nat} (v : Vector α n) (f : Nat → α → β) (i : Fin n) :
    (v.mapIdx f).get i = f i.val (v.get i) := by
  simp [Vector.get_eq_getElem]

@[simp] theorem get_replicate {α : Type} {n : Nat} (a : α) (i : Fin n) : (Vector.replicate n a).get i = a := by
  simp [Vector.get_eq_getElem]

/-- Two tables are equal when every entry is. -/
theorem vector_ext_get {α : Type} {n : Nat} {v w : Vector α n} (h : ∀ i, v.get i = w.get i) : v = w := by
  apply Vector.ext
  intro i hi
  simpa [Vector.get_eq_getElem] using h ⟨i, hi⟩

namespace Machine

variable (s : State)

/-! ### modPort -/

@[simp] theorem State.modPort_resetAsserted (p : PortId) (f : Port → Port) : (s.modPort p f).resetAsserted = s.resetAsserted := rfl
@[simp] theorem State.modPort_host (p : PortId) (f : Port → Port) : (s.modPort p f).host = s.host := rfl
@[simp] theorem State.modPort_hostQueue (p : PortId) (f : Port → Port) : (s.modPort p f).hostQueue = s.hostQueue := rfl
@[simp] theorem State.modPort_stamp (p : PortId) (f : Port → Port) : (s.modPort p f).stamp = s.stamp := rfl
@[simp] theorem State.modPort_regions (p : PortId) (f : Port → Port) : (s.modPort p f).regions = s.regions := rfl
@[simp] theorem State.modPort_remap (p : PortId) (f : Port → Port) : (s.modPort p f).remap = s.remap := rfl
@[simp] theorem State.modPort_banks (p : PortId) (f : Port → Port) : (s.modPort p f).banks = s.banks := rfl
@[simp] theorem State.modPort_refresh (p : PortId) (f : Port → Port) : (s.modPort p f).refresh = s.refresh := rfl
@[simp] theorem State.modPort_credit (p : PortId) (f : Port → Port) : (s.modPort p f).credit = s.credit := rfl
@[simp] theorem State.modPort_arbiter (p : PortId) (f : Port → Port) : (s.modPort p f).arbiter = s.arbiter := rfl
@[simp] theorem State.modPort_mode (p : PortId) (f : Port → Port) : (s.modPort p f).mode = s.mode := rfl
@[simp] theorem State.modPort_events (p : PortId) (f : Port → Port) : (s.modPort p f).events = s.events := rfl
@[simp] theorem State.modPort_bus (p : PortId) (f : Port → Port) : (s.modPort p f).bus = s.bus := rfl
@[simp] theorem State.modPort_dram (p : PortId) (f : Port → Port) : (s.modPort p f).dram = s.dram := rfl
@[simp] theorem State.modPort_history (p : PortId) (f : Port → Port) : (s.modPort p f).history = s.history := rfl
@[simp] theorem State.modPort_decided (p : PortId) (f : Port → Port) : (s.modPort p f).decided = s.decided := rfl
@[simp] theorem State.modPort_freeCount (p : PortId) (f : Port → Port) : (s.modPort p f).freeCount = s.freeCount := rfl
@[simp] theorem State.modPort_pending (p : PortId) (f : Port → Port) : (s.modPort p f).pending = s.pending := rfl

theorem State.modPort_get (p q : PortId) (f : Port → Port) :
    (s.modPort p f).ports.get q = if p = q then f (s.ports.get p) else s.ports.get q := get_put ..

@[simp] theorem State.modPort_get_self (p : PortId) (f : Port → Port) :
    (s.modPort p f).ports.get p = f (s.ports.get p) := get_put_self ..

theorem State.modPort_get_of_ne {p q : PortId} (h : p ≠ q) (f : Port → Port) :
    (s.modPort p f).ports.get q = s.ports.get q := get_put_of_ne _ h _

/-! ### modBank -/

@[simp] theorem State.modBank_resetAsserted (b : BankId) (f : Bank → Bank) : (s.modBank b f).resetAsserted = s.resetAsserted := rfl
@[simp] theorem State.modBank_host (b : BankId) (f : Bank → Bank) : (s.modBank b f).host = s.host := rfl
@[simp] theorem State.modBank_ports (b : BankId) (f : Bank → Bank) : (s.modBank b f).ports = s.ports := rfl
@[simp] theorem State.modBank_hostQueue (b : BankId) (f : Bank → Bank) : (s.modBank b f).hostQueue = s.hostQueue := rfl
@[simp] theorem State.modBank_stamp (b : BankId) (f : Bank → Bank) : (s.modBank b f).stamp = s.stamp := rfl
@[simp] theorem State.modBank_regions (b : BankId) (f : Bank → Bank) : (s.modBank b f).regions = s.regions := rfl
@[simp] theorem State.modBank_remap (b : BankId) (f : Bank → Bank) : (s.modBank b f).remap = s.remap := rfl
@[simp] theorem State.modBank_refresh (b : BankId) (f : Bank → Bank) : (s.modBank b f).refresh = s.refresh := rfl
@[simp] theorem State.modBank_credit (b : BankId) (f : Bank → Bank) : (s.modBank b f).credit = s.credit := rfl
@[simp] theorem State.modBank_arbiter (b : BankId) (f : Bank → Bank) : (s.modBank b f).arbiter = s.arbiter := rfl
@[simp] theorem State.modBank_mode (b : BankId) (f : Bank → Bank) : (s.modBank b f).mode = s.mode := rfl
@[simp] theorem State.modBank_events (b : BankId) (f : Bank → Bank) : (s.modBank b f).events = s.events := rfl
@[simp] theorem State.modBank_bus (b : BankId) (f : Bank → Bank) : (s.modBank b f).bus = s.bus := rfl
@[simp] theorem State.modBank_dram (b : BankId) (f : Bank → Bank) : (s.modBank b f).dram = s.dram := rfl
@[simp] theorem State.modBank_history (b : BankId) (f : Bank → Bank) : (s.modBank b f).history = s.history := rfl
@[simp] theorem State.modBank_decided (b : BankId) (f : Bank → Bank) : (s.modBank b f).decided = s.decided := rfl
@[simp] theorem State.modBank_freeCount (b : BankId) (f : Bank → Bank) : (s.modBank b f).freeCount = s.freeCount := rfl
@[simp] theorem State.modBank_pending (b : BankId) (f : Bank → Bank) : (s.modBank b f).pending = s.pending := rfl

theorem State.modBank_get (b c : BankId) (f : Bank → Bank) :
    (s.modBank b f).banks.get c = if b = c then f (s.banks.get b) else s.banks.get c := get_put ..

@[simp] theorem State.modBank_get_self (b : BankId) (f : Bank → Bank) :
    (s.modBank b f).banks.get b = f (s.banks.get b) := get_put_self ..

theorem State.modBank_get_of_ne {b c : BankId} (h : b ≠ c) (f : Bank → Bank) :
    (s.modBank b f).banks.get c = s.banks.get c := get_put_of_ne _ h _

/-! ### modRegion -/

@[simp] theorem State.modRegion_resetAsserted (i : Fin 16) (f : Region → Region) : (s.modRegion i f).resetAsserted = s.resetAsserted := rfl
@[simp] theorem State.modRegion_host (i : Fin 16) (f : Region → Region) : (s.modRegion i f).host = s.host := rfl
@[simp] theorem State.modRegion_ports (i : Fin 16) (f : Region → Region) : (s.modRegion i f).ports = s.ports := rfl
@[simp] theorem State.modRegion_hostQueue (i : Fin 16) (f : Region → Region) : (s.modRegion i f).hostQueue = s.hostQueue := rfl
@[simp] theorem State.modRegion_stamp (i : Fin 16) (f : Region → Region) : (s.modRegion i f).stamp = s.stamp := rfl
@[simp] theorem State.modRegion_remap (i : Fin 16) (f : Region → Region) : (s.modRegion i f).remap = s.remap := rfl
@[simp] theorem State.modRegion_banks (i : Fin 16) (f : Region → Region) : (s.modRegion i f).banks = s.banks := rfl
@[simp] theorem State.modRegion_refresh (i : Fin 16) (f : Region → Region) : (s.modRegion i f).refresh = s.refresh := rfl
@[simp] theorem State.modRegion_credit (i : Fin 16) (f : Region → Region) : (s.modRegion i f).credit = s.credit := rfl
@[simp] theorem State.modRegion_arbiter (i : Fin 16) (f : Region → Region) : (s.modRegion i f).arbiter = s.arbiter := rfl
@[simp] theorem State.modRegion_mode (i : Fin 16) (f : Region → Region) : (s.modRegion i f).mode = s.mode := rfl
@[simp] theorem State.modRegion_events (i : Fin 16) (f : Region → Region) : (s.modRegion i f).events = s.events := rfl
@[simp] theorem State.modRegion_bus (i : Fin 16) (f : Region → Region) : (s.modRegion i f).bus = s.bus := rfl
@[simp] theorem State.modRegion_dram (i : Fin 16) (f : Region → Region) : (s.modRegion i f).dram = s.dram := rfl
@[simp] theorem State.modRegion_history (i : Fin 16) (f : Region → Region) : (s.modRegion i f).history = s.history := rfl
@[simp] theorem State.modRegion_decided (i : Fin 16) (f : Region → Region) : (s.modRegion i f).decided = s.decided := rfl
@[simp] theorem State.modRegion_freeCount (i : Fin 16) (f : Region → Region) : (s.modRegion i f).freeCount = s.freeCount := rfl
@[simp] theorem State.modRegion_pending (i : Fin 16) (f : Region → Region) : (s.modRegion i f).pending = s.pending := rfl

theorem State.modRegion_get (i j : Fin 16) (f : Region → Region) :
    (s.modRegion i f).regions.get j = if i = j then f (s.regions.get i) else s.regions.get j := get_put ..

/-! ### modAccount -/

@[simp] theorem State.modAccount_resetAsserted (b : BankId) (f : Account → Account) : (s.modAccount b f).resetAsserted = s.resetAsserted := rfl
@[simp] theorem State.modAccount_host (b : BankId) (f : Account → Account) : (s.modAccount b f).host = s.host := rfl
@[simp] theorem State.modAccount_ports (b : BankId) (f : Account → Account) : (s.modAccount b f).ports = s.ports := rfl
@[simp] theorem State.modAccount_hostQueue (b : BankId) (f : Account → Account) : (s.modAccount b f).hostQueue = s.hostQueue := rfl
@[simp] theorem State.modAccount_stamp (b : BankId) (f : Account → Account) : (s.modAccount b f).stamp = s.stamp := rfl
@[simp] theorem State.modAccount_regions (b : BankId) (f : Account → Account) : (s.modAccount b f).regions = s.regions := rfl
@[simp] theorem State.modAccount_remap (b : BankId) (f : Account → Account) : (s.modAccount b f).remap = s.remap := rfl
@[simp] theorem State.modAccount_banks (b : BankId) (f : Account → Account) : (s.modAccount b f).banks = s.banks := rfl
@[simp] theorem State.modAccount_credit (b : BankId) (f : Account → Account) : (s.modAccount b f).credit = s.credit := rfl
@[simp] theorem State.modAccount_arbiter (b : BankId) (f : Account → Account) : (s.modAccount b f).arbiter = s.arbiter := rfl
@[simp] theorem State.modAccount_mode (b : BankId) (f : Account → Account) : (s.modAccount b f).mode = s.mode := rfl
@[simp] theorem State.modAccount_events (b : BankId) (f : Account → Account) : (s.modAccount b f).events = s.events := rfl
@[simp] theorem State.modAccount_bus (b : BankId) (f : Account → Account) : (s.modAccount b f).bus = s.bus := rfl
@[simp] theorem State.modAccount_dram (b : BankId) (f : Account → Account) : (s.modAccount b f).dram = s.dram := rfl
@[simp] theorem State.modAccount_history (b : BankId) (f : Account → Account) : (s.modAccount b f).history = s.history := rfl
@[simp] theorem State.modAccount_decided (b : BankId) (f : Account → Account) : (s.modAccount b f).decided = s.decided := rfl
@[simp] theorem State.modAccount_freeCount (b : BankId) (f : Account → Account) : (s.modAccount b f).freeCount = s.freeCount := rfl
@[simp] theorem State.modAccount_pending (b : BankId) (f : Account → Account) : (s.modAccount b f).pending = s.pending := rfl

@[simp] theorem State.modAccount_elapsed (b : BankId) (f : Account → Account) :
    (s.modAccount b f).refresh.elapsed = s.refresh.elapsed := rfl

@[simp] theorem State.modAccount_conditioning (b : BankId) (f : Account → Account) :
    (s.modAccount b f).refresh.conditioning = s.refresh.conditioning := rfl

theorem State.modAccount_account (b c : BankId) (f : Account → Account) :
    (s.modAccount b f).account c = if b = c then f (s.account b) else s.account c := get_put ..

@[simp] theorem State.modAccount_account_self (b : BankId) (f : Account → Account) :
    (s.modAccount b f).account b = f (s.account b) := get_put_self ..

/-! ### modSlot -/

@[simp] theorem State.modSlot_resetAsserted (k : SlotId) (f : Slot → Slot) : (s.modSlot k f).resetAsserted = s.resetAsserted := rfl
@[simp] theorem State.modSlot_ports (k : SlotId) (f : Slot → Slot) : (s.modSlot k f).ports = s.ports := rfl
@[simp] theorem State.modSlot_hostQueue (k : SlotId) (f : Slot → Slot) : (s.modSlot k f).hostQueue = s.hostQueue := rfl
@[simp] theorem State.modSlot_stamp (k : SlotId) (f : Slot → Slot) : (s.modSlot k f).stamp = s.stamp := rfl
@[simp] theorem State.modSlot_regions (k : SlotId) (f : Slot → Slot) : (s.modSlot k f).regions = s.regions := rfl
@[simp] theorem State.modSlot_remap (k : SlotId) (f : Slot → Slot) : (s.modSlot k f).remap = s.remap := rfl
@[simp] theorem State.modSlot_banks (k : SlotId) (f : Slot → Slot) : (s.modSlot k f).banks = s.banks := rfl
@[simp] theorem State.modSlot_refresh (k : SlotId) (f : Slot → Slot) : (s.modSlot k f).refresh = s.refresh := rfl
@[simp] theorem State.modSlot_credit (k : SlotId) (f : Slot → Slot) : (s.modSlot k f).credit = s.credit := rfl
@[simp] theorem State.modSlot_arbiter (k : SlotId) (f : Slot → Slot) : (s.modSlot k f).arbiter = s.arbiter := rfl
@[simp] theorem State.modSlot_mode (k : SlotId) (f : Slot → Slot) : (s.modSlot k f).mode = s.mode := rfl
@[simp] theorem State.modSlot_events (k : SlotId) (f : Slot → Slot) : (s.modSlot k f).events = s.events := rfl
@[simp] theorem State.modSlot_bus (k : SlotId) (f : Slot → Slot) : (s.modSlot k f).bus = s.bus := rfl
@[simp] theorem State.modSlot_dram (k : SlotId) (f : Slot → Slot) : (s.modSlot k f).dram = s.dram := rfl
@[simp] theorem State.modSlot_history (k : SlotId) (f : Slot → Slot) : (s.modSlot k f).history = s.history := rfl
@[simp] theorem State.modSlot_decided (k : SlotId) (f : Slot → Slot) : (s.modSlot k f).decided = s.decided := rfl
@[simp] theorem State.modSlot_freeCount (k : SlotId) (f : Slot → Slot) : (s.modSlot k f).freeCount = s.freeCount := rfl
@[simp] theorem State.modSlot_pending (k : SlotId) (f : Slot → Slot) : (s.modSlot k f).pending = s.pending := rfl

@[simp] theorem State.modSlot_result (k : SlotId) (f : Slot → Slot) : (s.modSlot k f).host.result = s.host.result := rfl
@[simp] theorem State.modSlot_detail (k : SlotId) (f : Slot → Slot) : (s.modSlot k f).host.detail = s.host.detail := rfl
@[simp] theorem State.modSlot_portSelect (k : SlotId) (f : Slot → Slot) : (s.modSlot k f).host.portSelect = s.host.portSelect := rfl
@[simp] theorem State.modSlot_slotEnables (k : SlotId) (f : Slot → Slot) : (s.modSlot k f).host.slotEnables = s.host.slotEnables := rfl
@[simp] theorem State.modSlot_tableSelect (k : SlotId) (f : Slot → Slot) : (s.modSlot k f).host.tableSelect = s.host.tableSelect := rfl
@[simp] theorem State.modSlot_tableIndex (k : SlotId) (f : Slot → Slot) : (s.modSlot k f).host.tableIndex = s.host.tableIndex := rfl
@[simp] theorem State.modSlot_stage (k : SlotId) (f : Slot → Slot) : (s.modSlot k f).host.stage = s.host.stage := rfl
@[simp] theorem State.modSlot_bankSelect (k : SlotId) (f : Slot → Slot) : (s.modSlot k f).host.bankSelect = s.host.bankSelect := rfl
@[simp] theorem State.modSlot_view (k : SlotId) (f : Slot → Slot) : (s.modSlot k f).host.view = s.host.view := rfl

theorem State.modSlot_get (k l : SlotId) (f : Slot → Slot) :
    (s.modSlot k f).host.slots.get l = if k = l then f (s.host.slots.get k) else s.host.slots.get l := get_put ..

@[simp] theorem State.modSlot_get_self (k : SlotId) (f : Slot → Slot) :
    (s.modSlot k f).host.slots.get k = f (s.host.slots.get k) := get_put_self ..

/-! ### setSched -/

@[simp] theorem State.setSched_resetAsserted (st : SchedState) : (s.setSched st).resetAsserted = s.resetAsserted := rfl
@[simp] theorem State.setSched_host (st : SchedState) : (s.setSched st).host = s.host := rfl
@[simp] theorem State.setSched_ports (st : SchedState) : (s.setSched st).ports = s.ports := rfl
@[simp] theorem State.setSched_hostQueue (st : SchedState) : (s.setSched st).hostQueue = s.hostQueue := rfl
@[simp] theorem State.setSched_stamp (st : SchedState) : (s.setSched st).stamp = s.stamp := rfl
@[simp] theorem State.setSched_regions (st : SchedState) : (s.setSched st).regions = s.regions := rfl
@[simp] theorem State.setSched_remap (st : SchedState) : (s.setSched st).remap = s.remap := rfl
@[simp] theorem State.setSched_banks (st : SchedState) : (s.setSched st).banks = s.banks := rfl
@[simp] theorem State.setSched_refresh (st : SchedState) : (s.setSched st).refresh = s.refresh := rfl
@[simp] theorem State.setSched_credit (st : SchedState) : (s.setSched st).credit = s.credit := rfl
@[simp] theorem State.setSched_arbiter (st : SchedState) : (s.setSched st).arbiter = s.arbiter := rfl
@[simp] theorem State.setSched_events (st : SchedState) : (s.setSched st).events = s.events := rfl
@[simp] theorem State.setSched_bus (st : SchedState) : (s.setSched st).bus = s.bus := rfl
@[simp] theorem State.setSched_dram (st : SchedState) : (s.setSched st).dram = s.dram := rfl
@[simp] theorem State.setSched_history (st : SchedState) : (s.setSched st).history = s.history := rfl
@[simp] theorem State.setSched_decided (st : SchedState) : (s.setSched st).decided = s.decided := rfl
@[simp] theorem State.setSched_freeCount (st : SchedState) : (s.setSched st).freeCount = s.freeCount := rfl
@[simp] theorem State.setSched_pending (st : SchedState) : (s.setSched st).pending = s.pending := rfl

@[simp] theorem State.setSched_sched (st : SchedState) : (s.setSched st).mode.sched = st := rfl
@[simp] theorem State.setSched_pages (st : SchedState) : (s.setSched st).mode.pages = s.mode.pages := rfl
@[simp] theorem State.setSched_runSelect (st : SchedState) : (s.setSched st).mode.runSelect = s.mode.runSelect := rfl

/-! ### setResult -/

@[simp] theorem State.setResult_resetAsserted (r : Result) : (s.setResult r).resetAsserted = s.resetAsserted := rfl
@[simp] theorem State.setResult_ports (r : Result) : (s.setResult r).ports = s.ports := rfl
@[simp] theorem State.setResult_hostQueue (r : Result) : (s.setResult r).hostQueue = s.hostQueue := rfl
@[simp] theorem State.setResult_stamp (r : Result) : (s.setResult r).stamp = s.stamp := rfl
@[simp] theorem State.setResult_regions (r : Result) : (s.setResult r).regions = s.regions := rfl
@[simp] theorem State.setResult_remap (r : Result) : (s.setResult r).remap = s.remap := rfl
@[simp] theorem State.setResult_banks (r : Result) : (s.setResult r).banks = s.banks := rfl
@[simp] theorem State.setResult_refresh (r : Result) : (s.setResult r).refresh = s.refresh := rfl
@[simp] theorem State.setResult_credit (r : Result) : (s.setResult r).credit = s.credit := rfl
@[simp] theorem State.setResult_arbiter (r : Result) : (s.setResult r).arbiter = s.arbiter := rfl
@[simp] theorem State.setResult_mode (r : Result) : (s.setResult r).mode = s.mode := rfl
@[simp] theorem State.setResult_events (r : Result) : (s.setResult r).events = s.events := rfl
@[simp] theorem State.setResult_bus (r : Result) : (s.setResult r).bus = s.bus := rfl
@[simp] theorem State.setResult_dram (r : Result) : (s.setResult r).dram = s.dram := rfl
@[simp] theorem State.setResult_history (r : Result) : (s.setResult r).history = s.history := rfl
@[simp] theorem State.setResult_decided (r : Result) : (s.setResult r).decided = s.decided := rfl
@[simp] theorem State.setResult_freeCount (r : Result) : (s.setResult r).freeCount = s.freeCount := rfl
@[simp] theorem State.setResult_pending (r : Result) : (s.setResult r).pending = s.pending := rfl

@[simp] theorem State.setResult_slots (r : Result) : (s.setResult r).host.slots = s.host.slots := rfl
@[simp] theorem State.setResult_result (r : Result) : (s.setResult r).host.result = r := rfl
@[simp] theorem State.setResult_detail (r : Result) : (s.setResult r).host.detail = 0 := rfl

/-! ### notify -/

@[simp] theorem State.notify_resetAsserted (p : PortId) (n : Notice) : (s.notify p n).resetAsserted = s.resetAsserted := rfl
@[simp] theorem State.notify_host (p : PortId) (n : Notice) : (s.notify p n).host = s.host := rfl
@[simp] theorem State.notify_hostQueue (p : PortId) (n : Notice) : (s.notify p n).hostQueue = s.hostQueue := rfl
@[simp] theorem State.notify_stamp (p : PortId) (n : Notice) : (s.notify p n).stamp = s.stamp := rfl
@[simp] theorem State.notify_regions (p : PortId) (n : Notice) : (s.notify p n).regions = s.regions := rfl
@[simp] theorem State.notify_remap (p : PortId) (n : Notice) : (s.notify p n).remap = s.remap := rfl
@[simp] theorem State.notify_banks (p : PortId) (n : Notice) : (s.notify p n).banks = s.banks := rfl
@[simp] theorem State.notify_refresh (p : PortId) (n : Notice) : (s.notify p n).refresh = s.refresh := rfl
@[simp] theorem State.notify_credit (p : PortId) (n : Notice) : (s.notify p n).credit = s.credit := rfl
@[simp] theorem State.notify_arbiter (p : PortId) (n : Notice) : (s.notify p n).arbiter = s.arbiter := rfl
@[simp] theorem State.notify_mode (p : PortId) (n : Notice) : (s.notify p n).mode = s.mode := rfl
@[simp] theorem State.notify_events (p : PortId) (n : Notice) : (s.notify p n).events = s.events := rfl
@[simp] theorem State.notify_bus (p : PortId) (n : Notice) : (s.notify p n).bus = s.bus := rfl
@[simp] theorem State.notify_dram (p : PortId) (n : Notice) : (s.notify p n).dram = s.dram := rfl
@[simp] theorem State.notify_history (p : PortId) (n : Notice) : (s.notify p n).history = s.history := rfl
@[simp] theorem State.notify_decided (p : PortId) (n : Notice) : (s.notify p n).decided = s.decided := rfl
@[simp] theorem State.notify_freeCount (p : PortId) (n : Notice) : (s.notify p n).freeCount = s.freeCount := rfl
@[simp] theorem State.notify_pending (p : PortId) (n : Notice) : (s.notify p n).pending = s.pending := rfl

@[simp] theorem State.notify_get_self (p : PortId) (n : Notice) :
    (s.notify p n).ports.get p = { s.ports.get p with outbound := (s.ports.get p).outbound ++ [n] } :=
  State.modPort_get_self ..

/-! ### takeCredit -/

@[simp] theorem State.takeCredit_resetAsserted  : (s.takeCredit).resetAsserted = s.resetAsserted := rfl
@[simp] theorem State.takeCredit_host  : (s.takeCredit).host = s.host := rfl
@[simp] theorem State.takeCredit_ports  : (s.takeCredit).ports = s.ports := rfl
@[simp] theorem State.takeCredit_hostQueue  : (s.takeCredit).hostQueue = s.hostQueue := rfl
@[simp] theorem State.takeCredit_stamp  : (s.takeCredit).stamp = s.stamp := rfl
@[simp] theorem State.takeCredit_regions  : (s.takeCredit).regions = s.regions := rfl
@[simp] theorem State.takeCredit_remap  : (s.takeCredit).remap = s.remap := rfl
@[simp] theorem State.takeCredit_banks  : (s.takeCredit).banks = s.banks := rfl
@[simp] theorem State.takeCredit_refresh  : (s.takeCredit).refresh = s.refresh := rfl
@[simp] theorem State.takeCredit_arbiter  : (s.takeCredit).arbiter = s.arbiter := rfl
@[simp] theorem State.takeCredit_mode  : (s.takeCredit).mode = s.mode := rfl
@[simp] theorem State.takeCredit_events  : (s.takeCredit).events = s.events := rfl
@[simp] theorem State.takeCredit_bus  : (s.takeCredit).bus = s.bus := rfl
@[simp] theorem State.takeCredit_dram  : (s.takeCredit).dram = s.dram := rfl
@[simp] theorem State.takeCredit_history  : (s.takeCredit).history = s.history := rfl
@[simp] theorem State.takeCredit_decided  : (s.takeCredit).decided = s.decided := rfl
@[simp] theorem State.takeCredit_freeCount  : (s.takeCredit).freeCount = s.freeCount := rfl
@[simp] theorem State.takeCredit_pending  : (s.takeCredit).pending = s.pending := rfl

/-! ### drive -/

@[simp] theorem State.drive_resetAsserted (c : DramCommand) : (s.drive c).resetAsserted = s.resetAsserted := rfl
@[simp] theorem State.drive_host (c : DramCommand) : (s.drive c).host = s.host := rfl
@[simp] theorem State.drive_ports (c : DramCommand) : (s.drive c).ports = s.ports := rfl
@[simp] theorem State.drive_hostQueue (c : DramCommand) : (s.drive c).hostQueue = s.hostQueue := rfl
@[simp] theorem State.drive_stamp (c : DramCommand) : (s.drive c).stamp = s.stamp := rfl
@[simp] theorem State.drive_regions (c : DramCommand) : (s.drive c).regions = s.regions := rfl
@[simp] theorem State.drive_remap (c : DramCommand) : (s.drive c).remap = s.remap := rfl
@[simp] theorem State.drive_banks (c : DramCommand) : (s.drive c).banks = s.banks := rfl
@[simp] theorem State.drive_refresh (c : DramCommand) : (s.drive c).refresh = s.refresh := rfl
@[simp] theorem State.drive_credit (c : DramCommand) : (s.drive c).credit = s.credit := rfl
@[simp] theorem State.drive_arbiter (c : DramCommand) : (s.drive c).arbiter = s.arbiter := rfl
@[simp] theorem State.drive_mode (c : DramCommand) : (s.drive c).mode = s.mode := rfl
@[simp] theorem State.drive_events (c : DramCommand) : (s.drive c).events = s.events := rfl
@[simp] theorem State.drive_dram (c : DramCommand) : (s.drive c).dram = s.dram := rfl
@[simp] theorem State.drive_history (c : DramCommand) : (s.drive c).history = s.history := rfl
@[simp] theorem State.drive_decided (c : DramCommand) : (s.drive c).decided = s.decided := rfl
@[simp] theorem State.drive_freeCount (c : DramCommand) : (s.drive c).freeCount = s.freeCount := rfl
@[simp] theorem State.drive_pending (c : DramCommand) : (s.drive c).pending = s.pending := rfl

@[simp] theorem State.drive_bus (c : DramCommand) : (s.drive c).bus = some c := rfl

/-! ### takeStamp -/

@[simp] theorem State.takeStamp_resetAsserted (i : Fin 16) : (s.takeStamp i).resetAsserted = s.resetAsserted := rfl
@[simp] theorem State.takeStamp_host (i : Fin 16) : (s.takeStamp i).host = s.host := rfl
@[simp] theorem State.takeStamp_ports (i : Fin 16) : (s.takeStamp i).ports = s.ports := rfl
@[simp] theorem State.takeStamp_hostQueue (i : Fin 16) : (s.takeStamp i).hostQueue = s.hostQueue := rfl
@[simp] theorem State.takeStamp_remap (i : Fin 16) : (s.takeStamp i).remap = s.remap := rfl
@[simp] theorem State.takeStamp_banks (i : Fin 16) : (s.takeStamp i).banks = s.banks := rfl
@[simp] theorem State.takeStamp_refresh (i : Fin 16) : (s.takeStamp i).refresh = s.refresh := rfl
@[simp] theorem State.takeStamp_credit (i : Fin 16) : (s.takeStamp i).credit = s.credit := rfl
@[simp] theorem State.takeStamp_arbiter (i : Fin 16) : (s.takeStamp i).arbiter = s.arbiter := rfl
@[simp] theorem State.takeStamp_mode (i : Fin 16) : (s.takeStamp i).mode = s.mode := rfl
@[simp] theorem State.takeStamp_events (i : Fin 16) : (s.takeStamp i).events = s.events := rfl
@[simp] theorem State.takeStamp_bus (i : Fin 16) : (s.takeStamp i).bus = s.bus := rfl
@[simp] theorem State.takeStamp_dram (i : Fin 16) : (s.takeStamp i).dram = s.dram := rfl
@[simp] theorem State.takeStamp_history (i : Fin 16) : (s.takeStamp i).history = s.history := rfl
@[simp] theorem State.takeStamp_decided (i : Fin 16) : (s.takeStamp i).decided = s.decided := rfl
@[simp] theorem State.takeStamp_freeCount (i : Fin 16) : (s.takeStamp i).freeCount = s.freeCount := rfl
@[simp] theorem State.takeStamp_pending (i : Fin 16) : (s.takeStamp i).pending = s.pending := rfl

/-! ### mapRecords -/

@[simp] theorem State.mapRecords_resetAsserted (f : Record → Record) : (s.mapRecords f).resetAsserted = s.resetAsserted := rfl
@[simp] theorem State.mapRecords_host (f : Record → Record) : (s.mapRecords f).host = s.host := rfl
@[simp] theorem State.mapRecords_stamp (f : Record → Record) : (s.mapRecords f).stamp = s.stamp := rfl
@[simp] theorem State.mapRecords_regions (f : Record → Record) : (s.mapRecords f).regions = s.regions := rfl
@[simp] theorem State.mapRecords_remap (f : Record → Record) : (s.mapRecords f).remap = s.remap := rfl
@[simp] theorem State.mapRecords_banks (f : Record → Record) : (s.mapRecords f).banks = s.banks := rfl
@[simp] theorem State.mapRecords_refresh (f : Record → Record) : (s.mapRecords f).refresh = s.refresh := rfl
@[simp] theorem State.mapRecords_credit (f : Record → Record) : (s.mapRecords f).credit = s.credit := rfl
@[simp] theorem State.mapRecords_arbiter (f : Record → Record) : (s.mapRecords f).arbiter = s.arbiter := rfl
@[simp] theorem State.mapRecords_mode (f : Record → Record) : (s.mapRecords f).mode = s.mode := rfl
@[simp] theorem State.mapRecords_events (f : Record → Record) : (s.mapRecords f).events = s.events := rfl
@[simp] theorem State.mapRecords_bus (f : Record → Record) : (s.mapRecords f).bus = s.bus := rfl
@[simp] theorem State.mapRecords_dram (f : Record → Record) : (s.mapRecords f).dram = s.dram := rfl
@[simp] theorem State.mapRecords_history (f : Record → Record) : (s.mapRecords f).history = s.history := rfl
@[simp] theorem State.mapRecords_decided (f : Record → Record) : (s.mapRecords f).decided = s.decided := rfl
@[simp] theorem State.mapRecords_freeCount (f : Record → Record) : (s.mapRecords f).freeCount = s.freeCount := rfl
@[simp] theorem State.mapRecords_pending (f : Record → Record) : (s.mapRecords f).pending = s.pending := rfl

@[simp] theorem State.mapRecords_get (f : Record → Record) (p : PortId) :
    (s.mapRecords f).ports.get p = { s.ports.get p with queue := (s.ports.get p).queue.map f } := get_map ..

@[simp] theorem State.mapRecords_hostQueue (f : Record → Record) : (s.mapRecords f).hostQueue = s.hostQueue.map f := rfl

/-! ### post: the event queue alone changes -/

@[simp] theorem State.post_resetAsserted (k : EventKind) (o : Source) (t : Option (Fin 16)) (d : Nat) :
    (s.post k o t d).resetAsserted = s.resetAsserted := by
  unfold State.post; split <;> rfl

@[simp] theorem State.post_host (k : EventKind) (o : Source) (t : Option (Fin 16)) (d : Nat) :
    (s.post k o t d).host = s.host := by
  unfold State.post; split <;> rfl

@[simp] theorem State.post_ports (k : EventKind) (o : Source) (t : Option (Fin 16)) (d : Nat) :
    (s.post k o t d).ports = s.ports := by
  unfold State.post; split <;> rfl

@[simp] theorem State.post_hostQueue (k : EventKind) (o : Source) (t : Option (Fin 16)) (d : Nat) :
    (s.post k o t d).hostQueue = s.hostQueue := by
  unfold State.post; split <;> rfl

@[simp] theorem State.post_stamp (k : EventKind) (o : Source) (t : Option (Fin 16)) (d : Nat) :
    (s.post k o t d).stamp = s.stamp := by
  unfold State.post; split <;> rfl

@[simp] theorem State.post_regions (k : EventKind) (o : Source) (t : Option (Fin 16)) (d : Nat) :
    (s.post k o t d).regions = s.regions := by
  unfold State.post; split <;> rfl

@[simp] theorem State.post_remap (k : EventKind) (o : Source) (t : Option (Fin 16)) (d : Nat) :
    (s.post k o t d).remap = s.remap := by
  unfold State.post; split <;> rfl

@[simp] theorem State.post_banks (k : EventKind) (o : Source) (t : Option (Fin 16)) (d : Nat) :
    (s.post k o t d).banks = s.banks := by
  unfold State.post; split <;> rfl

@[simp] theorem State.post_refresh (k : EventKind) (o : Source) (t : Option (Fin 16)) (d : Nat) :
    (s.post k o t d).refresh = s.refresh := by
  unfold State.post; split <;> rfl

@[simp] theorem State.post_credit (k : EventKind) (o : Source) (t : Option (Fin 16)) (d : Nat) :
    (s.post k o t d).credit = s.credit := by
  unfold State.post; split <;> rfl

@[simp] theorem State.post_arbiter (k : EventKind) (o : Source) (t : Option (Fin 16)) (d : Nat) :
    (s.post k o t d).arbiter = s.arbiter := by
  unfold State.post; split <;> rfl

@[simp] theorem State.post_mode (k : EventKind) (o : Source) (t : Option (Fin 16)) (d : Nat) :
    (s.post k o t d).mode = s.mode := by
  unfold State.post; split <;> rfl

@[simp] theorem State.post_bus (k : EventKind) (o : Source) (t : Option (Fin 16)) (d : Nat) :
    (s.post k o t d).bus = s.bus := by
  unfold State.post; split <;> rfl

@[simp] theorem State.post_dram (k : EventKind) (o : Source) (t : Option (Fin 16)) (d : Nat) :
    (s.post k o t d).dram = s.dram := by
  unfold State.post; split <;> rfl

@[simp] theorem State.post_history (k : EventKind) (o : Source) (t : Option (Fin 16)) (d : Nat) :
    (s.post k o t d).history = s.history := by
  unfold State.post; split <;> rfl
@[simp] theorem State.post_decided (k : EventKind) (o : Source) (t : Option (Fin 16)) (d : Nat) :
    (s.post k o t d).decided = s.decided := by
  unfold State.post; split <;> rfl
@[simp] theorem State.post_freeCount (k : EventKind) (o : Source) (t : Option (Fin 16)) (d : Nat) :
    (s.post k o t d).freeCount = s.freeCount := by
  unfold State.post; split <;> rfl

@[simp] theorem State.post_pending (k : EventKind) (o : Source) (t : Option (Fin 16)) (d : Nat) :
    (s.post k o t d).pending = s.pending := by
  unfold State.post; split <;> rfl

@[simp] theorem State.post_mask (k : EventKind) (o : Source) (t : Option (Fin 16)) (d : Nat) :
    (s.post k o t d).events.mask = s.events.mask := by
  unfold State.post; split <;> rfl

/-- What a post does to the event queue (R154, R155). -/
theorem State.post_events (k : EventKind) (o : Source) (t : Option (Fin 16)) (d : Nat) :
    (s.post k o t d).events =
      if s.events.mask.getLsbD (k.code - 1) then
        { s.events with records := storePost s.events.records (.report k o t d) }
      else s.events := by
  unfold State.post; split <;> rfl

theorem State.post_events_congr {s t : State} (h : t.events = s.events) (k : EventKind) (o : Source)
    (g : Option (Fin 16)) (d : Nat) : (t.post k o g d).events = (s.post k o g d).events := by
  rw [State.post_events, State.post_events, h]

/-- A post changes the event queue alone. -/
theorem State.post_eq (k : EventKind) (o : Source) (t : Option (Fin 16)) (d : Nat) :
    s.post k o t d = { s with events := (s.post k o t d).events } := by
  unfold State.post; split <;> rfl

end Machine

end Sys2Proof
end

