-- ==== Sys2Proof/Laws/Memory.lean ====
section
/-! SUPPORT. The contents of the rank: every operation keeps the canonical form, a read after a write gives the word
written, and a write or a loss of contents leaves every other place alone. -/

namespace Sys2Proof.Machine

theorem Dram.wf_iff (m : Dram) : m.wf = true ↔ m.Pairwise (fun a b => a.1 < b.1) := by
  simp [Dram.wf]

theorem Dram.wf_nil : Dram.wf [] = true := by simp [Dram.wf]

/-- Every address of the contents after a write is the one written or one that stood before. -/
theorem Dram.mem_write {m : Dram} {a : Nat} {w : Word} {c : Nat × Word} (h : c ∈ m.write a w) :
    c.1 = a ∨ c ∈ m := by
  induction m with
  | nil => simp_all [Dram.write]
  | cons d rest ih =>
    simp only [Dram.write] at h
    split at h
    · rcases List.mem_cons.1 h with rfl | h
      · exact .inl rfl
      · exact .inr h
    · split at h
      · rcases List.mem_cons.1 h with rfl | h
        · exact .inl rfl
        · exact .inr (List.mem_cons_of_mem _ h)
      · rcases List.mem_cons.1 h with rfl | h
        · exact .inr List.mem_cons_self
        · exact (ih h).imp id (List.mem_cons_of_mem _)

theorem Dram.write_wf {m : Dram} (h : m.wf = true) (a : Nat) (w : Word) : (m.write a w).wf = true := by
  rw [Dram.wf_iff] at *
  induction m with
  | nil => simp [Dram.write]
  | cons c rest ih =>
    obtain ⟨hc, hr⟩ := List.pairwise_cons.1 h
    simp only [Dram.write]
    split
    next hlt =>
      refine List.pairwise_cons.2 ⟨fun d hd => ?_, h⟩
      rcases List.mem_cons.1 hd with rfl | hd
      · exact hlt
      · exact Nat.lt_trans hlt (hc d hd)
    next hge =>
      split
      next heq => exact List.pairwise_cons.2 ⟨fun d hd => heq ▸ hc d hd, hr⟩
      next hne =>
        refine List.pairwise_cons.2 ⟨fun d hd => ?_, ih hr⟩
        rcases Dram.mem_write hd with h' | h'
        · omega
        · exact hc d h'

theorem Dram.forget_wf {m : Dram} (h : m.wf = true) (lo n : Nat) : (m.forget lo n).wf = true := by
  rw [Dram.wf_iff] at *
  exact h.sublist List.filter_sublist

theorem Dram.store_wf {m : Dram} (h : m.wf = true) (a : Nat) (w : Option Word) : (m.store a w).wf = true := by
  cases w with
  | none => exact Dram.forget_wf h a 1
  | some w => exact Dram.write_wf h a w

theorem Dram.forgetGroup_wf {m : Dram} (h : m.wf = true) (b : BankId) (g : Nat) : (m.forgetGroup b g).wf = true :=
  Dram.forget_wf h _ _

theorem Dram.forgetRow_wf {m : Dram} (h : m.wf = true) (b : BankId) (phys : Nat) : (m.forgetRow b phys).wf = true :=
  Dram.forget_wf h _ _

theorem Dram.forgetGroups_wf {m : Dram} (h : m.wf = true) (q : BankId → Nat → Bool) : (m.forgetGroups q).wf = true := by
  rw [Dram.wf_iff] at *
  exact h.sublist List.filter_sublist

theorem Dram.storeBurst_wf {m : Dram} (h : m.wf = true) (b : BankId) (phys pos : Nat) (mask : BitVec 4)
    (data : Vector (Option Word) 4) : (m.storeBurst b phys pos mask data).wf = true := by
  have step : ∀ (l : List (Fin 4)) (m : Dram), m.wf = true →
      (l.foldl (fun m k => if mask.getLsbD k.val then m.store (dramAddr b phys (4 * pos + k.val)) (data.get k) else m)
        m).wf = true := by
    intro l
    induction l with
    | nil => exact fun _ h => h
    | cons k l ih =>
      intro m hm
      refine ih _ ?_
      dsimp only
      split
      · exact Dram.store_wf hm _ _
      · exact hm
  exact step _ m h

theorem Dram.read_write_self (m : Dram) (a : Nat) (w : Word) : (m.write a w).read a = some w := by
  unfold Dram.read
  induction m with
  | nil => simp [Dram.write]
  | cons c rest ih =>
    simp only [Dram.write]
    split
    · simp
    · split
      · simp
      next hne =>
        have : (c.1 == a) = false := by simp; omega
        simpa [this] using ih

theorem Dram.read_write_of_ne (m : Dram) {a b : Nat} (w : Word) (hab : a ≠ b) : (m.write a w).read b = m.read b := by
  unfold Dram.read
  have hne : (a == b) = false := by simpa using hab
  induction m with
  | nil => simp [Dram.write, hne]
  | cons c rest ih =>
    simp only [Dram.write]
    split
    · simp [hne]
    · split
      next heq => simp [hne, show (c.1 == b) = false by simp; omega]
      next hne' =>
        simp only [List.find?_cons]
        split
        · rfl
        · exact ih

/-- A place outside the forgotten range reads as before. -/
theorem Dram.read_forget_of_outside (m : Dram) {lo n b : Nat} (h : b < lo ∨ lo + n ≤ b) :
    (m.forget lo n).read b = m.read b := by
  unfold Dram.read Dram.forget
  congr 1
  induction m with
  | nil => rfl
  | cons c rest ih =>
    simp only [List.filter_cons, List.find?_cons]
    by_cases hc : c.1 = b
    · rw [if_pos (by simp; omega)]
      simp [hc]
    · have hb : (c.1 == b) = false := by simpa using hc
      simp only [hb]
      split
      · simpa [List.find?_cons, hb] using ih
      · exact ih

/-- A place inside the forgotten range is undefined. -/
theorem Dram.read_forget_of_inside (m : Dram) {lo n b : Nat} (h : lo ≤ b ∧ b < lo + n) :
    (m.forget lo n).read b = none := by
  unfold Dram.read Dram.forget
  simp only [Option.map_eq_none_iff, List.find?_eq_none, List.mem_filter]
  rintro c ⟨_, hc⟩ hb
  simp at hc hb
  omega

theorem Dram.read_store_of_ne (m : Dram) {a b : Nat} (w : Option Word) (hab : a ≠ b) :
    (m.store a w).read b = m.read b := by
  cases w with
  | some w => exact Dram.read_write_of_ne m w hab
  | none => exact Dram.read_forget_of_outside m (by omega)

theorem Dram.read_store_self (m : Dram) (a : Nat) (w : Option Word) : (m.store a w).read a = w := by
  cases w with
  | some w => exact Dram.read_write_self m a w
  | none => exact Dram.read_forget_of_inside m (by omega)

/-- A burst leaves every place outside its four words as it was. -/
theorem Dram.read_storeBurst_of_outside (m : Dram) (b : BankId) (phys pos : Nat) (mask : BitVec 4)
    (data : Vector (Option Word) 4) {a : Nat}
    (h : ∀ k : Fin 4, a ≠ dramAddr b phys (4 * pos + k.val)) :
    (m.storeBurst b phys pos mask data).read a = m.read a := by
  have step : ∀ (l : List (Fin 4)) (m : Dram),
      (l.foldl (fun m k => if mask.getLsbD k.val then m.store (dramAddr b phys (4 * pos + k.val)) (data.get k) else m)
        m).read a = m.read a := by
    intro l
    induction l with
    | nil => exact fun _ => rfl
    | cons k l ih =>
      intro m
      rw [List.foldl_cons, ih]
      split
      · exact Dram.read_store_of_ne m _ (h k).symm
      · rfl
  exact step _ m

/-- A read of contents that a test on addresses has thinned out. -/
theorem Dram.read_filter (m : Dram) (f : Nat → Bool) (a : Nat) :
    Dram.read (m.filter fun c => f c.1) a = if f a then m.read a else none := by
  unfold Dram.read
  induction m with
  | nil => simp
  | cons c rest ih =>
    rw [List.filter_cons]
    by_cases hc : c.1 = a
    · subst hc
      cases hf : f c.1
      · simpa [hf] using ih
      · simp
    · have hb : (c.1 == a) = false := by simpa using hc
      split <;> simpa [List.find?_cons, hb] using ih

/-- An address lies in the group it counts to from its bank's first word, if in any group of the bank. -/
theorem inGroup_unique {b : BankId} {g a : Nat} (h : inGroup b g a = true) : g = (a - dramAddr b 0 0) / 4096 := by
  simp [inGroup, dramAddr] at h ⊢
  omega

/-- The loss of the groups with `q`: the words of such a group are undefined, every other place reads as before. -/
theorem Dram.read_forgetGroups (m : Dram) (q : BankId → Nat → Bool) (a : Nat) :
    ((∃ b n, q b n = true ∧ inGroup b n a = true) → (m.forgetGroups q).read a = none) ∧
    ((¬∃ b n, q b n = true ∧ inGroup b n a = true) → (m.forgetGroups q).read a = m.read a) := by
  have hb : ∀ b : BankId, b ∈ allBanks := by decide
  have key : (allBanks.any fun b => q b ((a - dramAddr b 0 0) / 4096) && inGroup b ((a - dramAddr b 0 0) / 4096) a) = true ↔
      ∃ b n, q b n = true ∧ inGroup b n a = true := by
    simp only [List.any_eq_true, Bool.and_eq_true]
    constructor
    · rintro ⟨b, -, h⟩; exact ⟨b, _, h⟩
    · rintro ⟨b, n, h, hg⟩
      have hn := inGroup_unique hg
      subst hn
      exact ⟨b, hb b, h, hg⟩
  unfold Dram.forgetGroups
  rw [Dram.read_filter m fun a => !allBanks.any fun b =>
    q b ((a - dramAddr b 0 0) / 4096) && inGroup b ((a - dramAddr b 0 0) / 4096) a]
  constructor
  · intro h; rw [key.2 h]; rfl
  · intro h; rw [Bool.eq_false_iff.2 fun h' => h (key.1 h')]; rfl

theorem State.reset_dram_wf : State.reset.dram.wf = true := Dram.wf_nil

end Sys2Proof.Machine
end

