-- ==== Sys2Proof/Laws/Ops.lean ====
section
/-! SUPPORT. One group of lemmas for each shared operation: the fields it leaves alone, and what it does to the
others. -/

namespace Sys2Proof.Machine

/-- What every step of a fold leaves alone, the fold leaves alone. -/
theorem foldl_keeps {α β γ : Type} (g : α → γ) (f : α → β → α) (h : ∀ a b, g (f a b) = g a) (l : List β) (a : α) :
    g (l.foldl f a) = g a := by
  induction l generalizing a with
  | nil => rfl
  | cons b l ih => rw [List.foldl_cons, ih, h]

/-- What every step of a fold keeps true, the fold keeps true. -/
theorem foldl_induct {α β : Type} (I : α → Prop) (f : α → β → α) (h : ∀ a b, I a → I (f a b)) (l : List β) (a : α)
    (ha : I a) : I (l.foldl f a) := by
  induction l generalizing a with
  | nil => exact ha
  | cons b l ih => exact ih _ (h a b ha)

variable (s : State)

/-! ### release -/

@[simp] theorem State.release_resetAsserted (r : Record) : (s.release r).resetAsserted = s.resetAsserted := by
  unfold State.release; dsimp only; split <;> rfl
@[simp] theorem State.release_host (r : Record) : (s.release r).host = s.host := by
  unfold State.release; dsimp only; split <;> rfl
@[simp] theorem State.release_ports (r : Record) : (s.release r).ports = s.ports := by
  unfold State.release; dsimp only; split <;> rfl
@[simp] theorem State.release_hostQueue (r : Record) : (s.release r).hostQueue = s.hostQueue := by
  unfold State.release; dsimp only; split <;> rfl
@[simp] theorem State.release_stamp (r : Record) : (s.release r).stamp = s.stamp := by
  unfold State.release; dsimp only; split <;> rfl
@[simp] theorem State.release_remap (r : Record) : (s.release r).remap = s.remap := by
  unfold State.release; dsimp only; split <;> rfl
@[simp] theorem State.release_refresh (r : Record) : (s.release r).refresh = s.refresh := by
  unfold State.release; dsimp only; split <;> rfl
@[simp] theorem State.release_credit (r : Record) : (s.release r).credit = s.credit := by
  unfold State.release; dsimp only; split <;> rfl
@[simp] theorem State.release_arbiter (r : Record) : (s.release r).arbiter = s.arbiter := by
  unfold State.release; dsimp only; split <;> rfl
@[simp] theorem State.release_mode (r : Record) : (s.release r).mode = s.mode := by
  unfold State.release; dsimp only; split <;> rfl
@[simp] theorem State.release_events (r : Record) : (s.release r).events = s.events := by
  unfold State.release; dsimp only; split <;> rfl
@[simp] theorem State.release_bus (r : Record) : (s.release r).bus = s.bus := by
  unfold State.release; dsimp only; split <;> rfl
@[simp] theorem State.release_dram (r : Record) : (s.release r).dram = s.dram := by
  unfold State.release; dsimp only; split <;> rfl
@[simp] theorem State.release_history (r : Record) : (s.release r).history = s.history := by
  unfold State.release; dsimp only; split <;> rfl
@[simp] theorem State.release_decided (r : Record) : (s.release r).decided = s.decided := by
  unfold State.release; dsimp only; split <;> rfl
@[simp] theorem State.release_freeCount (r : Record) : (s.release r).freeCount = s.freeCount := by
  unfold State.release; dsimp only; split <;> rfl
@[simp] theorem State.release_pending (r : Record) : (s.release r).pending = s.pending := by
  unfold State.release; dsimp only; split <;> rfl

theorem State.release_region (r : Record) (i : Fin 16) :
    (s.release r).regions.get i =
      { s.regions.get i with refCount := (s.regions.get i).refCount - if r.region = i then 1 else 0 } := by
  have h : (s.release r).regions = (s.modRegion r.region fun e => { e with refCount := e.refCount - 1 }).regions := by
    unfold State.release; dsimp only; split <;> rfl
  rw [h, State.modRegion_get]
  split
  next heq => simp [heq]
  next hne => simp

theorem State.release_bank (r : Record) (b : BankId) :
    (s.release r).banks.get b =
      { s.banks.get b with
        pins := (s.banks.get b).pins - if r.isActive = true ∧ r.bank = b then 1 else 0 } := by
  unfold State.release
  dsimp only
  by_cases ha : r.isActive = true
  · rw [if_pos ha, State.modBank_get]
    by_cases hb : r.bank = b
    · simp [ha, hb]
    · simp [hb]
  · simp [ha]

/-- A release changes the region counts and the pin counts alone. -/
theorem State.release_eq (r : Record) :
    s.release r = { s with regions := (s.release r).regions, banks := (s.release r).banks } := by
  unfold State.release; dsimp only; split <;> rfl

/-! ### The release of a list of records -/

@[simp] theorem State.releaseAll_resetAsserted (l : List Record) : (l.foldl State.release s).resetAsserted = s.resetAsserted := foldl_keeps State.resetAsserted _ (fun s r => s.release_resetAsserted r) l s
@[simp] theorem State.releaseAll_host (l : List Record) : (l.foldl State.release s).host = s.host := foldl_keeps State.host _ (fun s r => s.release_host r) l s
@[simp] theorem State.releaseAll_ports (l : List Record) : (l.foldl State.release s).ports = s.ports := foldl_keeps State.ports _ (fun s r => s.release_ports r) l s
@[simp] theorem State.releaseAll_hostQueue (l : List Record) : (l.foldl State.release s).hostQueue = s.hostQueue := foldl_keeps State.hostQueue _ (fun s r => s.release_hostQueue r) l s
@[simp] theorem State.releaseAll_stamp (l : List Record) : (l.foldl State.release s).stamp = s.stamp := foldl_keeps State.stamp _ (fun s r => s.release_stamp r) l s
@[simp] theorem State.releaseAll_remap (l : List Record) : (l.foldl State.release s).remap = s.remap := foldl_keeps State.remap _ (fun s r => s.release_remap r) l s
@[simp] theorem State.releaseAll_refresh (l : List Record) : (l.foldl State.release s).refresh = s.refresh := foldl_keeps State.refresh _ (fun s r => s.release_refresh r) l s
@[simp] theorem State.releaseAll_credit (l : List Record) : (l.foldl State.release s).credit = s.credit := foldl_keeps State.credit _ (fun s r => s.release_credit r) l s
@[simp] theorem State.releaseAll_arbiter (l : List Record) : (l.foldl State.release s).arbiter = s.arbiter := foldl_keeps State.arbiter _ (fun s r => s.release_arbiter r) l s
@[simp] theorem State.releaseAll_mode (l : List Record) : (l.foldl State.release s).mode = s.mode := foldl_keeps State.mode _ (fun s r => s.release_mode r) l s
@[simp] theorem State.releaseAll_events (l : List Record) : (l.foldl State.release s).events = s.events := foldl_keeps State.events _ (fun s r => s.release_events r) l s
@[simp] theorem State.releaseAll_bus (l : List Record) : (l.foldl State.release s).bus = s.bus := foldl_keeps State.bus _ (fun s r => s.release_bus r) l s
@[simp] theorem State.releaseAll_dram (l : List Record) : (l.foldl State.release s).dram = s.dram := foldl_keeps State.dram _ (fun s r => s.release_dram r) l s
@[simp] theorem State.releaseAll_history (l : List Record) : (l.foldl State.release s).history = s.history := foldl_keeps State.history _ (fun s r => s.release_history r) l s
@[simp] theorem State.releaseAll_decided (l : List Record) : (l.foldl State.release s).decided = s.decided := foldl_keeps State.decided _ (fun s r => s.release_decided r) l s
@[simp] theorem State.releaseAll_freeCount (l : List Record) : (l.foldl State.release s).freeCount = s.freeCount := foldl_keeps State.freeCount _ (fun s r => s.release_freeCount r) l s
@[simp] theorem State.releaseAll_pending (l : List Record) : (l.foldl State.release s).pending = s.pending := foldl_keeps State.pending _ (fun s r => s.release_pending r) l s

/-- The counts fall by the number of records counted against the region. -/
theorem State.releaseAll_counts (l : List Record) : s.CountsLowered (l.foldl State.release s) l := by
  induction l generalizing s with
  | nil => intro i; simp
  | cons r l ih =>
    intro i
    rw [List.foldl_cons, ih, State.release_region, List.countP_cons]
    by_cases h : r.region = i <;> simp [h]
    omega

/-- The pins fall by the number of ACTIVE records on the bank. -/
theorem State.releaseAll_pins (l : List Record) : s.PinsLowered (l.foldl State.release s) l := by
  induction l generalizing s with
  | nil => intro b; simp
  | cons r l ih =>
    intro b
    rw [List.foldl_cons, ih, State.release_bank, List.countP_cons]
    by_cases h : r.isActive = true ∧ r.bank = b <;> simp [h]
    omega

/-! ### finishClient -/

@[simp] theorem State.finishClient_resetAsserted (p : PortId) (r : Record) (st : FinishStatus) : (s.finishClient p r st).resetAsserted = s.resetAsserted := by
  simp [State.finishClient]
@[simp] theorem State.finishClient_host (p : PortId) (r : Record) (st : FinishStatus) : (s.finishClient p r st).host = s.host := by
  simp [State.finishClient]
@[simp] theorem State.finishClient_hostQueue (p : PortId) (r : Record) (st : FinishStatus) : (s.finishClient p r st).hostQueue = s.hostQueue := by
  simp [State.finishClient]
@[simp] theorem State.finishClient_stamp (p : PortId) (r : Record) (st : FinishStatus) : (s.finishClient p r st).stamp = s.stamp := by
  simp [State.finishClient]
@[simp] theorem State.finishClient_remap (p : PortId) (r : Record) (st : FinishStatus) : (s.finishClient p r st).remap = s.remap := by
  simp [State.finishClient]
@[simp] theorem State.finishClient_refresh (p : PortId) (r : Record) (st : FinishStatus) : (s.finishClient p r st).refresh = s.refresh := by
  simp [State.finishClient]
@[simp] theorem State.finishClient_credit (p : PortId) (r : Record) (st : FinishStatus) : (s.finishClient p r st).credit = s.credit := by
  simp [State.finishClient]
@[simp] theorem State.finishClient_arbiter (p : PortId) (r : Record) (st : FinishStatus) : (s.finishClient p r st).arbiter = s.arbiter := by
  simp [State.finishClient]
@[simp] theorem State.finishClient_mode (p : PortId) (r : Record) (st : FinishStatus) : (s.finishClient p r st).mode = s.mode := by
  simp [State.finishClient]
@[simp] theorem State.finishClient_events (p : PortId) (r : Record) (st : FinishStatus) : (s.finishClient p r st).events = s.events := by
  simp [State.finishClient]
@[simp] theorem State.finishClient_bus (p : PortId) (r : Record) (st : FinishStatus) : (s.finishClient p r st).bus = s.bus := by
  simp [State.finishClient]
@[simp] theorem State.finishClient_dram (p : PortId) (r : Record) (st : FinishStatus) : (s.finishClient p r st).dram = s.dram := by
  simp [State.finishClient]
@[simp] theorem State.finishClient_history (p : PortId) (r : Record) (st : FinishStatus) : (s.finishClient p r st).history = s.history := by
  simp [State.finishClient]
@[simp] theorem State.finishClient_decided (p : PortId) (r : Record) (st : FinishStatus) : (s.finishClient p r st).decided = s.decided := by
  simp [State.finishClient]
@[simp] theorem State.finishClient_freeCount (p : PortId) (r : Record) (st : FinishStatus) : (s.finishClient p r st).freeCount = s.freeCount := by
  simp [State.finishClient]
@[simp] theorem State.finishClient_pending (p : PortId) (r : Record) (st : FinishStatus) : (s.finishClient p r st).pending = s.pending := by
  simp [State.finishClient]

theorem State.finishClient_regions (p : PortId) (r : Record) (st : FinishStatus) :
    (s.finishClient p r st).regions = (s.release r).regions := rfl

theorem State.finishClient_banks (p : PortId) (r : Record) (st : FinishStatus) :
    (s.finishClient p r st).banks = (s.release r).banks := rfl

theorem State.finishClient_get (p q : PortId) (r : Record) (st : FinishStatus) :
    (s.finishClient p r st).ports.get q =
      if p = q then
        { s.ports.get p with
          queue := (s.ports.get p).queue.eraseP fun x => x.tag == r.tag
          outbound := (s.ports.get p).outbound ++ [r.doneNotice st] }
      else s.ports.get q := by
  simp [State.finishClient, State.modPort_get]

/-! ### emptyPort -/

@[simp] theorem State.emptyPort_resetAsserted (p : PortId) (f : List Record → List Notice) : (s.emptyPort p f).resetAsserted = s.resetAsserted := by
  simp [State.emptyPort]
@[simp] theorem State.emptyPort_host (p : PortId) (f : List Record → List Notice) : (s.emptyPort p f).host = s.host := by
  simp [State.emptyPort]
@[simp] theorem State.emptyPort_hostQueue (p : PortId) (f : List Record → List Notice) : (s.emptyPort p f).hostQueue = s.hostQueue := by
  simp [State.emptyPort]
@[simp] theorem State.emptyPort_stamp (p : PortId) (f : List Record → List Notice) : (s.emptyPort p f).stamp = s.stamp := by
  simp [State.emptyPort]
@[simp] theorem State.emptyPort_remap (p : PortId) (f : List Record → List Notice) : (s.emptyPort p f).remap = s.remap := by
  simp [State.emptyPort]
@[simp] theorem State.emptyPort_refresh (p : PortId) (f : List Record → List Notice) : (s.emptyPort p f).refresh = s.refresh := by
  simp [State.emptyPort]
@[simp] theorem State.emptyPort_credit (p : PortId) (f : List Record → List Notice) : (s.emptyPort p f).credit = s.credit := by
  simp [State.emptyPort]
@[simp] theorem State.emptyPort_arbiter (p : PortId) (f : List Record → List Notice) : (s.emptyPort p f).arbiter = s.arbiter := by
  simp [State.emptyPort]
@[simp] theorem State.emptyPort_mode (p : PortId) (f : List Record → List Notice) : (s.emptyPort p f).mode = s.mode := by
  simp [State.emptyPort]
@[simp] theorem State.emptyPort_events (p : PortId) (f : List Record → List Notice) : (s.emptyPort p f).events = s.events := by
  simp [State.emptyPort]
@[simp] theorem State.emptyPort_bus (p : PortId) (f : List Record → List Notice) : (s.emptyPort p f).bus = s.bus := by
  simp [State.emptyPort]
@[simp] theorem State.emptyPort_dram (p : PortId) (f : List Record → List Notice) : (s.emptyPort p f).dram = s.dram := by
  simp [State.emptyPort]
@[simp] theorem State.emptyPort_history (p : PortId) (f : List Record → List Notice) : (s.emptyPort p f).history = s.history := by
  simp [State.emptyPort]
@[simp] theorem State.emptyPort_decided (p : PortId) (f : List Record → List Notice) : (s.emptyPort p f).decided = s.decided := by
  simp [State.emptyPort]
@[simp] theorem State.emptyPort_freeCount (p : PortId) (f : List Record → List Notice) : (s.emptyPort p f).freeCount = s.freeCount := by
  simp [State.emptyPort]
@[simp] theorem State.emptyPort_pending (p : PortId) (f : List Record → List Notice) : (s.emptyPort p f).pending = s.pending := by
  simp [State.emptyPort]

theorem State.emptyPort_regions (p : PortId) (f : List Record → List Notice) :
    (s.emptyPort p f).regions = ((s.ports.get p).queue.foldl State.release s).regions := rfl

theorem State.emptyPort_banks (p : PortId) (f : List Record → List Notice) :
    (s.emptyPort p f).banks = ((s.ports.get p).queue.foldl State.release s).banks := rfl

theorem State.emptyPort_get (p q : PortId) (f : List Record → List Notice) :
    (s.emptyPort p f).ports.get q =
      if p = q then
        { s.ports.get p with queue := [], outbound := (s.ports.get p).outbound ++ f (s.ports.get p).queue }
      else s.ports.get q := by
  simp [State.emptyPort, State.modPort_get]

/-! ### flushHost -/

@[simp] theorem State.flushHost_resetAsserted  : (s.flushHost).resetAsserted = s.resetAsserted := by
  simp [State.flushHost]
@[simp] theorem State.flushHost_ports  : (s.flushHost).ports = s.ports := by
  simp [State.flushHost]
@[simp] theorem State.flushHost_stamp  : (s.flushHost).stamp = s.stamp := by
  simp [State.flushHost]
@[simp] theorem State.flushHost_remap  : (s.flushHost).remap = s.remap := by
  simp [State.flushHost]
@[simp] theorem State.flushHost_refresh  : (s.flushHost).refresh = s.refresh := by
  simp [State.flushHost]
@[simp] theorem State.flushHost_credit  : (s.flushHost).credit = s.credit := by
  simp [State.flushHost]
@[simp] theorem State.flushHost_arbiter  : (s.flushHost).arbiter = s.arbiter := by
  simp [State.flushHost]
@[simp] theorem State.flushHost_mode  : (s.flushHost).mode = s.mode := by
  simp [State.flushHost]
@[simp] theorem State.flushHost_events  : (s.flushHost).events = s.events := by
  simp [State.flushHost]
@[simp] theorem State.flushHost_bus  : (s.flushHost).bus = s.bus := by
  simp [State.flushHost]
@[simp] theorem State.flushHost_dram  : (s.flushHost).dram = s.dram := by
  simp [State.flushHost]
@[simp] theorem State.flushHost_history  : (s.flushHost).history = s.history := by
  simp [State.flushHost]
@[simp] theorem State.flushHost_decided  : (s.flushHost).decided = s.decided := by
  simp [State.flushHost]
@[simp] theorem State.flushHost_freeCount  : (s.flushHost).freeCount = s.freeCount := by
  simp [State.flushHost]
@[simp] theorem State.flushHost_pending  : (s.flushHost).pending = s.pending := by
  simp [State.flushHost]

theorem State.flushHost_regions : s.flushHost.regions = (s.hostQueue.foldl State.release s).regions := rfl

theorem State.flushHost_banks : s.flushHost.banks = (s.hostQueue.foldl State.release s).banks := rfl

@[simp] theorem State.flushHost_hostQueue : s.flushHost.hostQueue = [] := rfl

theorem State.flushHost_host :
    s.flushHost.host = { s.host with slots := s.host.slots.map Slot.flush } := by
  simp [State.flushHost]

/-! ### suspendBank -/

@[simp] theorem State.suspendBank_resetAsserted (b : BankId) : (s.suspendBank b).resetAsserted = s.resetAsserted := rfl
@[simp] theorem State.suspendBank_host (b : BankId) : (s.suspendBank b).host = s.host := rfl
@[simp] theorem State.suspendBank_stamp (b : BankId) : (s.suspendBank b).stamp = s.stamp := rfl
@[simp] theorem State.suspendBank_regions (b : BankId) : (s.suspendBank b).regions = s.regions := rfl
@[simp] theorem State.suspendBank_remap (b : BankId) : (s.suspendBank b).remap = s.remap := rfl
@[simp] theorem State.suspendBank_refresh (b : BankId) : (s.suspendBank b).refresh = s.refresh := rfl
@[simp] theorem State.suspendBank_credit (b : BankId) : (s.suspendBank b).credit = s.credit := rfl
@[simp] theorem State.suspendBank_arbiter (b : BankId) : (s.suspendBank b).arbiter = s.arbiter := rfl
@[simp] theorem State.suspendBank_mode (b : BankId) : (s.suspendBank b).mode = s.mode := rfl
@[simp] theorem State.suspendBank_events (b : BankId) : (s.suspendBank b).events = s.events := rfl
@[simp] theorem State.suspendBank_bus (b : BankId) : (s.suspendBank b).bus = s.bus := rfl
@[simp] theorem State.suspendBank_dram (b : BankId) : (s.suspendBank b).dram = s.dram := rfl
@[simp] theorem State.suspendBank_history (b : BankId) : (s.suspendBank b).history = s.history := rfl
@[simp] theorem State.suspendBank_decided (b : BankId) : (s.suspendBank b).decided = s.decided := rfl
@[simp] theorem State.suspendBank_freeCount (b : BankId) : (s.suspendBank b).freeCount = s.freeCount := rfl
@[simp] theorem State.suspendBank_pending (b : BankId) : (s.suspendBank b).pending = s.pending := rfl

@[simp] theorem State.suspendBank_hostQueue (b : BankId) :
    (s.suspendBank b).hostQueue = s.hostQueue.map (Record.suspend b) := rfl

@[simp] theorem State.suspendBank_port (b : BankId) (p : PortId) :
    (s.suspendBank b).ports.get p = { s.ports.get p with queue := (s.ports.get p).queue.map (Record.suspend b) } :=
  get_map ..

theorem State.suspendBank_bank (b c : BankId) :
    (s.suspendBank b).banks.get c = if b = c then { s.banks.get b with pins := 0 } else s.banks.get c := get_put ..

/-- After a suspension the record is not ACTIVE on the bank. -/
theorem Record.suspend_not_active (b : BankId) (r : Record) : ¬((r.suspend b).isActive = true ∧ (r.suspend b).bank = b) := by
  unfold Record.suspend
  split
  · simp [Record.isActive]
  next h => simpa using h

/-! ### settleDrain -/

@[simp] theorem State.settleDrain_resetAsserted  : (s.settleDrain).resetAsserted = s.resetAsserted := by
  unfold State.settleDrain; split <;> simp
@[simp] theorem State.settleDrain_host  : (s.settleDrain).host = s.host := by
  unfold State.settleDrain; split <;> simp
@[simp] theorem State.settleDrain_ports  : (s.settleDrain).ports = s.ports := by
  unfold State.settleDrain; split <;> simp
@[simp] theorem State.settleDrain_hostQueue  : (s.settleDrain).hostQueue = s.hostQueue := by
  unfold State.settleDrain; split <;> simp
@[simp] theorem State.settleDrain_stamp  : (s.settleDrain).stamp = s.stamp := by
  unfold State.settleDrain; split <;> simp
@[simp] theorem State.settleDrain_regions  : (s.settleDrain).regions = s.regions := by
  unfold State.settleDrain; split <;> simp
@[simp] theorem State.settleDrain_remap  : (s.settleDrain).remap = s.remap := by
  unfold State.settleDrain; split <;> simp
@[simp] theorem State.settleDrain_banks  : (s.settleDrain).banks = s.banks := by
  unfold State.settleDrain; split <;> simp
@[simp] theorem State.settleDrain_refresh  : (s.settleDrain).refresh = s.refresh := by
  unfold State.settleDrain; split <;> simp
@[simp] theorem State.settleDrain_credit  : (s.settleDrain).credit = s.credit := by
  unfold State.settleDrain; split <;> simp
@[simp] theorem State.settleDrain_arbiter  : (s.settleDrain).arbiter = s.arbiter := by
  unfold State.settleDrain; split <;> simp
@[simp] theorem State.settleDrain_bus  : (s.settleDrain).bus = s.bus := by
  unfold State.settleDrain; split <;> simp
@[simp] theorem State.settleDrain_dram  : (s.settleDrain).dram = s.dram := by
  unfold State.settleDrain; split <;> simp
@[simp] theorem State.settleDrain_history  : (s.settleDrain).history = s.history := by
  unfold State.settleDrain; split <;> simp
@[simp] theorem State.settleDrain_decided  : (s.settleDrain).decided = s.decided := by
  unfold State.settleDrain; split <;> simp
@[simp] theorem State.settleDrain_freeCount  : (s.settleDrain).freeCount = s.freeCount := by
  unfold State.settleDrain; split <;> simp
@[simp] theorem State.settleDrain_pending  : (s.settleDrain).pending = s.pending := by
  unfold State.settleDrain; split <;> simp

theorem State.drained_congr {s t : State} (hp : t.ports = s.ports) (hq : t.hostQueue = s.hostQueue)
    (hb : t.banks = s.banks) : t.drained = s.drained := by
  simp [State.drained, State.outstanding, allRequesters, State.queueOf, hp, hq, hb]

@[simp] theorem State.settleDrain_drained : s.settleDrain.drained = s.drained :=
  State.drained_congr (by simp) (by simp) (by simp)

/-- The drain condition as mode control tests it is the condition of R145. -/
theorem State.drained_iff : s.drained = true ↔ s.DrainComplete := by
  have hb : ∀ b : BankId, b ∈ allBanks := by decide
  simp only [State.drained, State.DrainComplete, Bool.and_eq_true, List.all_eq_true, beq_iff_eq, Option.isNone_iff_eq_none]
  exact and_congr Iff.rfl ⟨fun h b => h b (hb b), fun h b _ => h b⟩

@[simp] theorem State.settleDrain_pages : s.settleDrain.mode.pages = s.mode.pages := by
  unfold State.settleDrain; split <;> simp

@[simp] theorem State.settleDrain_runSelect : s.settleDrain.mode.runSelect = s.mode.runSelect := by
  unfold State.settleDrain; split <;> simp

/-- What `settleDrain` does to mode control and the event queue, seen from any `s` with the mode control and the
events of the state that is settled. -/
theorem State.Settled.of_eq {s t : State} (hm : t.mode = s.mode) (he : t.events = s.events) :
    s.Settled t.settleDrain := by
  have hd : t.settleDrain.DrainComplete ↔ t.drained = true := by
    rw [← State.drained_iff, State.settleDrain_drained]
  have hs : t.mode.sched = s.mode.sched := by rw [hm]
  constructor
  · rintro ⟨h₁, h₂⟩
    have hc : t.mode.sched = .drainHold ∧ t.drained = true := ⟨hs.trans h₁, hd.1 h₂⟩
    unfold State.settleDrain
    rw [if_pos hc]
    exact ⟨by simp [State.setSched, hm], State.post_events_congr ((t.setSched_events .held).trans he) ..⟩
  · intro h
    have hc : ¬(t.mode.sched = .drainHold ∧ t.drained = true) := fun hc => h ⟨hs ▸ hc.1, hd.2 hc.2⟩
    unfold State.settleDrain
    rw [if_neg hc]
    exact ⟨hm, he⟩

theorem State.settleDrain_settled : s.Settled s.settleDrain := State.Settled.of_eq rfl rfl

/-! ### beginWindow -/

/-- A new window changes the ports and the mark of the decision alone. -/
theorem State.beginWindow_eq :
    s.beginWindow = { s with ports := s.beginWindow.ports, decided := s.beginWindow.decided } := by
  unfold State.beginWindow; split <;> rfl

/-- Where the decision of the window that runs is still to come, no new window has begun. -/
theorem State.beginWindow_of_undecided (h : s.decided = false) : s.beginWindow = s := by
  simp [State.beginWindow, h]

theorem State.beginWindow_port (p : PortId) :
    s.beginWindow.ports.get p = if s.decided then (s.ports.get p).beginWindow else s.ports.get p := by
  unfold State.beginWindow
  split
  · exact get_map ..
  · rfl

@[simp] theorem State.beginWindow_decided : s.beginWindow.decided = false := by
  unfold State.beginWindow; split <;> simp_all

/-- What a new window leaves alone at a port: its setting, its lines and its queue. -/
theorem State.beginWindow_port_keeps (p : PortId) :
    (s.beginWindow.ports.get p).enabled = (s.ports.get p).enabled ∧
      (s.beginWindow.ports.get p).prst = (s.ports.get p).prst ∧
      (s.beginWindow.ports.get p).ready = (s.ports.get p).ready ∧
      (s.beginWindow.ports.get p).sampledLow = (s.ports.get p).sampledLow ∧
      (s.beginWindow.ports.get p).queue = (s.ports.get p).queue := by
  rw [State.beginWindow_port]; split <;> simp [Port.beginWindow]

/-! ### inWindow -/

@[simp] theorem State.inWindow_false : s.inWindow false = s := rfl

@[simp] theorem State.inWindow_true : s.inWindow true = s.beginWindow := rfl

/-- Where the decision of the window that runs is still to come, a happening falls in that window. -/
theorem State.inWindow_of_undecided (h : s.decided = false) (next : Bool) : s.inWindow next = s := by
  cases next
  · rfl
  · exact s.beginWindow_of_undecided h

/-- The window of a happening changes the ports and the mark of the decision alone. -/
theorem State.inWindow_eq (next : Bool) :
    s.inWindow next = { s with ports := (s.inWindow next).ports, decided := (s.inWindow next).decided } := by
  cases next
  · rfl
  · exact s.beginWindow_eq

/-- What the window of a happening leaves alone at a port: its setting, its lines and its queue. -/
theorem State.inWindow_port_keeps (next : Bool) (p : PortId) :
    ((s.inWindow next).ports.get p).enabled = (s.ports.get p).enabled ∧
      ((s.inWindow next).ports.get p).prst = (s.ports.get p).prst ∧
      ((s.inWindow next).ports.get p).ready = (s.ports.get p).ready ∧
      ((s.inWindow next).ports.get p).sampledLow = (s.ports.get p).sampledLow ∧
      ((s.inWindow next).ports.get p).queue = (s.ports.get p).queue := by
  cases next
  · exact ⟨rfl, rfl, rfl, rfl, rfl⟩
  · exact s.beginWindow_port_keeps p

/-- The window of an arriving frame changes the ports and the mark of the decision alone. -/
theorem State.atArrival_eq (a : Arrival) :
    s.atArrival a = { s with ports := (s.atArrival a).ports, decided := (s.atArrival a).decided } :=
  s.inWindow_eq a.inNextWindow

/-! ### The restart of the refill timer -/

theorem CreditBucket.restart_count (c : CreditBucket) (counted : Bool) (period : Nat) :
    (c.restart counted period).count = c.count := by
  cases counted <;> rfl

theorem CreditBucket.restart_refillTimer (c : CreditBucket) (counted : Bool) (period : Nat) :
    (c.restart counted period).refillTimer = if counted then 1 else 0 := by
  cases counted <;> rfl

theorem CreditBucket.restart_refillDue (c : CreditBucket) (counted : Bool) (period : Nat) :
    (c.restart counted period).refillDue = if counted then decide (period ≤ 1) else c.refillDue := by
  cases counted <;> simp [CreditBucket.restart, CreditBucket.tick]

/-! ### Remap edits and rows -/

/-- A remap edit changes of the part's rows their contents and their past alone. -/
theorem State.leaveRows_eq (i : Fin 8) (e : RemapEntry) :
    s.leaveRows i e = { s with dram := (s.leaveRows i e).dram, history := (s.leaveRows i e).history } := rfl

theorem State.takeRows_eq (i : Fin 8) (e : RemapEntry) :
    s.takeRows i e = { s with dram := (s.takeRows i e).dram, history := (s.takeRows i e).history } := rfl

theorem State.editRows_eq (i : Fin 8) (e : RemapEntry) :
    s.editRows i e = { s with dram := (s.editRows i e).dram, history := (s.editRows i e).history } := by
  unfold State.editRows; dsimp only
  split
  · rfl
  · split
    · rfl
    · split <;> split <;> rfl

theorem State.returnRow_dram_wf (h : s.dram.wf = true) (i : Fin 8) (e : RemapEntry) :
    (s.returnRow i e).dram.wf = true := by
  unfold State.returnRow; dsimp only
  split
  · exact Dram.forgetRow_wf h _ _
  · exact h

@[simp] theorem State.leaveSpare_dram (e : RemapEntry) : (s.leaveSpare e).dram = s.dram := rfl

theorem State.takeSpare_dram_wf (h : s.dram.wf = true) (e : RemapEntry) : (s.takeSpare e).dram.wf = true := by
  unfold State.takeSpare; dsimp only
  split
  · exact Dram.forgetRow_wf h _ _
  · exact h

@[simp] theorem State.coverRow_dram (i : Fin 8) : (s.coverRow i).dram = s.dram := rfl

theorem State.leaveRows_dram_wf (h : s.dram.wf = true) (i : Fin 8) (e : RemapEntry) :
    (s.leaveRows i e).dram.wf = true := s.returnRow_dram_wf h i e

theorem State.takeRows_dram_wf (h : s.dram.wf = true) (i : Fin 8) (e : RemapEntry) :
    (s.takeRows i e).dram.wf = true := s.takeSpare_dram_wf h e

theorem State.editRows_dram_wf (h : s.dram.wf = true) (i : Fin 8) (e : RemapEntry) :
    (s.editRows i e).dram.wf = true := by
  have leave (o : RemapEntry) (q : Prop) [Decidable q] : (if q then s.leaveRows i o else s).dram.wf = true := by
    split
    · exact s.leaveRows_dram_wf h i o
    · exact h
  unfold State.editRows; dsimp only
  split
  · exact h
  · split
    · exact State.takeSpare_dram_wf (s.leaveSpare _) h e
    · split
      · exact State.takeRows_dram_wf _ (leave _ _) i e
      · exact leave _ _

/-! ### The wheel wrap -/

/-- A wrap that has not been handed is not tested (R92). -/
theorem State.testWrap_of_none (h : s.arbiter.wrapHanded = false) : s.testWrap = s := by
  simp [State.testWrap, h]

/-- The test of a handed wrap that finds no completed drain of a pending switch spends the wrap and nothing else
(R146). -/
theorem State.testWrap_of_waiting (h : s.arbiter.wrapHanded = true)
    (hw : (∀ ret, s.mode.sched ≠ .drainSwitch ret) ∨ s.drained = false) :
    s.testWrap = { s with arbiter := { s.arbiter with wrapHanded := false } } := by
  unfold State.testWrap
  rw [if_pos h]
  dsimp only
  split
  next ret hs =>
    rcases hw with hw | hw
    · exact absurd hs (hw ret)
    · simp [hw]
  · rfl

/-- The test of a handed wrap that finds the drain of a pending switch complete takes the flip (R146, R147). -/
theorem State.testWrap_flips (h : s.arbiter.wrapHanded = true) {ret : ReturnState}
    (hs : s.mode.sched = .drainSwitch ret) (hd : s.drained = true) :
    s.testWrap = { s with arbiter := { s.arbiter with wrapHanded := false } }.takeFlip ret := by
  unfold State.testWrap
  rw [if_pos h, hs]
  simp [hd]

/-! ### The host port's READY -/

theorem State.hostReady_iff (waiting : Bool) :
    s.hostReady waiting = true ↔ s.resetAsserted = true ∨ waiting = false := by
  simp [State.hostReady]

end Sys2Proof.Machine
end

