-- ==== Sys2Proof/Laws/Exec.lean ====
section
/-! SUPPORT. What each command answers, once for each row: the state its meaning gives, or, while RESET is asserted, the
state as it was. The statement about every command at once is `exec_next`. -/

namespace Sys2Proof.Machine

-- One proof after another: a thread for each would reserve more memory than the check allows.
set_option Elab.async false

variable {s : State}

theorem State.live_of_released (h : s.Released) (f : State → State) : s.live f = .next (f s) := by
  simp only [State.Released] at h
  simp [State.live, h]

theorem State.live_of_asserted (h : s.resetAsserted = true) (f : State → State) : s.live f = .next s := by
  simp [State.live, h]

/-- The effect of a command on a part that is not in reset. -/
def State.after (s : State) : Instr → State
  | .powerOnReset asserted => s.resetLine asserted
  | .prstAssert p => s.assertPrst p
  | .prstDeassert p => s.deassertPrst p
  | .start => State.start s
  | .hold => State.hold s
  | .resume => State.resume s
  | .switch n => (s.inWindow n).switch
  | .pageCopy => State.pageCopy s
  | .softReset n => (s.inWindow n).softReset
  | .tableWriteRegion => s.tableWrite
  | .tableWriteRemap => s.tableWrite
  | .tableWritePage => s.tableWrite
  | .eventPop => s.eventPop
  | .unknownCommand code => s.commandWrite code.toNat
  | .goRead k => s.go k .read
  | .goWrite k => s.go k .write
  | .ack k => s.ackSlot k
  | .portEnable p => (s.selectPort p).enablePort p
  | .portDisable p n => ((s.inWindow n).selectPort p).disablePort p
  | .portSelect p => s.selectPort p
  | .bankStatusSelect b view => s.selectBank b view
  | .interruptEnableWrite enables => s.writeEnables enables
  | .eventEnableWrite mask => s.writeMask mask
  | .registerWrite a w n => (s.inWindow n).hostWrite a w
  | .request p frame => s.receive p frame
  | .cancel p frame => s.receive p frame
  | .discardedFrame p frame => s.receive p frame
  | .windowDecision ready drive => s.window ready drive
  | .openDelayExpiry b => s.openDelayExpiry b
  | .closeDelayExpiry b => s.closeDelayExpiry b
  | .refreshTimeExpiry b => s.refreshTimeExpiry b
  | .rowMinExpiry b => s.rowMinExpiry b
  | .writeRecoveryExpiry b => s.writeRecoveryExpiry b
  | .refill => s.refill
  | .intervalExpiry => s.intervalExpiry
  | .stallAbort p tag => s.stallAbort p tag
  | .drainComplete => s.settleDrain
  | .flip => s.flip
  | .conditioningEnd => s.conditioningEnd

theorem exec_powerOnReset (asserted : Bool) : exec (.powerOnReset asserted) s = .next (s.resetLine asserted) := rfl

theorem exec_prstAssert (p : PortId) : exec (.prstAssert p) s = .next (s.assertPrst p) := rfl

theorem exec_prstDeassert (p : PortId) : exec (.prstDeassert p) s = .next (s.deassertPrst p) := rfl

theorem exec_start (h : s.Released) : exec .start s = .next (State.start s) := by
  simp only [exec, execStart, State.live_of_released h]

theorem exec_hold (h : s.Released) : exec .hold s = .next (State.hold s) := by
  simp only [exec, execHold, State.live_of_released h]

theorem exec_resume (h : s.Released) : exec .resume s = .next (State.resume s) := by
  simp only [exec, execResume, State.live_of_released h]

theorem exec_switch (h : s.Released) (n : Bool) : exec (.switch n) s = .next (s.inWindow n).switch := by
  simp only [exec, execSwitch, State.live_of_released h]

theorem exec_pageCopy (h : s.Released) : exec .pageCopy s = .next (State.pageCopy s) := by
  simp only [exec, execPageCopy, State.live_of_released h]

theorem exec_softReset (h : s.Released) (n : Bool) : exec (.softReset n) s = .next (s.inWindow n).softReset := by
  simp only [exec, execSoftReset, State.live_of_released h]

theorem exec_tableWriteRegion (h : s.Released) : exec .tableWriteRegion s = .next (s.tableWrite) := by
  simp only [exec, execTableWriteRegion, State.live_of_released h]

theorem exec_tableWriteRemap (h : s.Released) : exec .tableWriteRemap s = .next (s.tableWrite) := by
  simp only [exec, execTableWriteRemap, State.live_of_released h]

theorem exec_tableWritePage (h : s.Released) : exec .tableWritePage s = .next (s.tableWrite) := by
  simp only [exec, execTableWritePage, State.live_of_released h]

theorem exec_eventPop (h : s.Released) : exec .eventPop s = .next (s.eventPop) := by
  simp only [exec, execEventPop, State.live_of_released h]

theorem exec_unknownCommand (h : s.Released) (code : BitVec 4) : exec (.unknownCommand code) s = .next (s.commandWrite code.toNat) := by
  simp only [exec, execUnknownCommand, State.live_of_released h]

theorem exec_goRead (h : s.Released) (k : SlotId) : exec (.goRead k) s = .next (s.go k .read) := by
  simp only [exec, execGoRead, State.live_of_released h]

theorem exec_goWrite (h : s.Released) (k : SlotId) : exec (.goWrite k) s = .next (s.go k .write) := by
  simp only [exec, execGoWrite, State.live_of_released h]

theorem exec_ack (h : s.Released) (k : SlotId) : exec (.ack k) s = .next (s.ackSlot k) := by
  simp only [exec, execAck, State.live_of_released h]

theorem exec_portEnable (h : s.Released) (p : PortId) : exec (.portEnable p) s = .next ((s.selectPort p).enablePort p) := by
  simp only [exec, execPortEnable, State.live_of_released h]

theorem exec_portDisable (h : s.Released) (p : PortId) (n : Bool) :
    exec (.portDisable p n) s = .next (((s.inWindow n).selectPort p).disablePort p) := by
  simp only [exec, execPortDisable, State.live_of_released h]

theorem exec_portSelect (h : s.Released) (p : PortId) : exec (.portSelect p) s = .next (s.selectPort p) := by
  simp only [exec, execPortSelect, State.live_of_released h]

theorem exec_bankStatusSelect (h : s.Released) (b : BankId) (view : Fin 4) : exec (.bankStatusSelect b view) s = .next (s.selectBank b view) := by
  simp only [exec, execBankStatusSelect, State.live_of_released h]

theorem exec_interruptEnableWrite (h : s.Released) (enables : BitVec 4) : exec (.interruptEnableWrite enables) s = .next (s.writeEnables enables) := by
  simp only [exec, execInterruptEnableWrite, State.live_of_released h]

theorem exec_eventEnableWrite (h : s.Released) (mask : BitVec 8) : exec (.eventEnableWrite mask) s = .next (s.writeMask mask) := by
  simp only [exec, execEventEnableWrite, State.live_of_released h]

theorem exec_registerWrite (h : s.Released) (a : BitVec 5) (w : Word) (n : Bool) :
    exec (.registerWrite a w n) s = .next ((s.inWindow n).hostWrite a w) := by
  simp only [exec, execRegisterWrite, State.live_of_released h]

theorem exec_request (h : s.Released) (p : PortId) (frame : Arrival) :
    exec (.request p frame) s = .next (s.receive p frame) := by
  simp only [exec, execRequest, State.live_of_released h]

theorem exec_cancel (h : s.Released) (p : PortId) (frame : Arrival) :
    exec (.cancel p frame) s = .next (s.receive p frame) := by
  simp only [exec, execCancel, State.live_of_released h]

theorem exec_discardedFrame (h : s.Released) (p : PortId) (frame : Arrival) :
    exec (.discardedFrame p frame) s = .next (s.receive p frame) := by
  simp only [exec, execDiscardedFrame, State.live_of_released h]

theorem exec_windowDecision (h : s.Released) (ready : BitVec 4) (drive : Option BurstData) : exec (.windowDecision ready drive) s = .next (s.window ready drive) := by
  simp only [exec, execWindowDecision, State.live_of_released h]

theorem exec_openDelayExpiry (h : s.Released) (b : BankId) : exec (.openDelayExpiry b) s = .next (s.openDelayExpiry b) := by
  simp only [exec, execOpenDelayExpiry, State.live_of_released h]

theorem exec_closeDelayExpiry (h : s.Released) (b : BankId) : exec (.closeDelayExpiry b) s = .next (s.closeDelayExpiry b) := by
  simp only [exec, execCloseDelayExpiry, State.live_of_released h]

theorem exec_refreshTimeExpiry (h : s.Released) (b : BankId) : exec (.refreshTimeExpiry b) s = .next (s.refreshTimeExpiry b) := by
  simp only [exec, execRefreshTimeExpiry, State.live_of_released h]

theorem exec_rowMinExpiry (h : s.Released) (b : BankId) : exec (.rowMinExpiry b) s = .next (s.rowMinExpiry b) := by
  simp only [exec, execRowMinExpiry, State.live_of_released h]

theorem exec_writeRecoveryExpiry (h : s.Released) (b : BankId) : exec (.writeRecoveryExpiry b) s = .next (s.writeRecoveryExpiry b) := by
  simp only [exec, execWriteRecoveryExpiry, State.live_of_released h]

theorem exec_refill (h : s.Released) : exec .refill s = .next (s.refill) := by
  simp only [exec, execRefill, State.live_of_released h]

theorem exec_intervalExpiry (h : s.Released) : exec .intervalExpiry s = .next (s.intervalExpiry) := by
  simp only [exec, execIntervalExpiry, State.live_of_released h]

theorem exec_stallAbort (h : s.Released) (p : PortId) (tag : Fin 16) : exec (.stallAbort p tag) s = .next (s.stallAbort p tag) := by
  simp only [exec, execStallAbort, State.live_of_released h]

theorem exec_drainComplete (h : s.Released) : exec .drainComplete s = .next (s.settleDrain) := by
  simp only [exec, execDrainComplete, State.live_of_released h]

theorem exec_flip (h : s.Released) : exec .flip s = .next (s.flip) := by
  simp only [exec, execFlip, State.live_of_released h]

theorem exec_conditioningEnd (h : s.Released) : exec .conditioningEnd s = .next (s.conditioningEnd) := by
  simp only [exec, execConditioningEnd, State.live_of_released h]

theorem exec_next (h : s.Released) (c : Instr) : exec c s = .next (s.after c) := by
  cases c <;> simp only [State.after, exec_powerOnReset, exec_prstAssert, exec_prstDeassert, exec_start h,
      exec_hold h, exec_resume h, exec_switch h, exec_pageCopy h, exec_softReset h, exec_tableWriteRegion h,
      exec_tableWriteRemap h, exec_tableWritePage h, exec_eventPop h, exec_unknownCommand h, exec_goRead h,
      exec_goWrite h, exec_ack h, exec_portEnable h, exec_portDisable h, exec_portSelect h, exec_bankStatusSelect h,
      exec_interruptEnableWrite h, exec_eventEnableWrite h, exec_registerWrite h, exec_request h, exec_cancel h,
      exec_discardedFrame h, exec_windowDecision h, exec_openDelayExpiry h, exec_closeDelayExpiry h,
      exec_refreshTimeExpiry h, exec_rowMinExpiry h, exec_writeRecoveryExpiry h, exec_refill h,
      exec_intervalExpiry h, exec_stallAbort h, exec_drainComplete h, exec_flip h, exec_conditioningEnd h]

/-- While RESET is asserted, a command that is neither a change of that line nor of a PRST line has no effect. -/
theorem exec_of_asserted (h : s.resetAsserted = true) (c : Instr) :
    exec c s = .next s ∨ (∃ a, c = .powerOnReset a) ∨ (∃ p, c = .prstAssert p) ∨ ∃ p, c = .prstDeassert p := by
  cases c
  case powerOnReset a => exact .inr (.inl ⟨a, rfl⟩)
  case prstAssert p => exact .inr (.inr (.inl ⟨p, rfl⟩))
  case prstDeassert p => exact .inr (.inr (.inr ⟨p, rfl⟩))
  all_goals
    refine .inl ?_
    simp only [exec, execStart, execHold, execResume, execSwitch, execPageCopy, execSoftReset, execTableWriteRegion,
      execTableWriteRemap, execTableWritePage, execEventPop, execUnknownCommand, execGoRead, execGoWrite, execAck,
      execPortEnable, execPortDisable, execPortSelect, execBankStatusSelect, execInterruptEnableWrite,
      execEventEnableWrite, execRegisterWrite, execRequest, execCancel, execDiscardedFrame, execWindowDecision,
      execOpenDelayExpiry, execCloseDelayExpiry, execRefreshTimeExpiry, execRowMinExpiry, execWriteRecoveryExpiry,
      execRefill, execIntervalExpiry, execStallAbort, execDrainComplete, execFlip, execConditioningEnd,
      State.live_of_asserted h]

/-- What a step can do: idle on an empty queue, leave the rest of the state as it is, or have the front command's
effect. -/
theorem step_cases {t : State} (h : step s = .next t) :
    t = s ∨ ∃ c rest, s.pending = c :: rest ∧
      (t = { s with pending := rest } ∨ t = State.after { s with pending := rest } c) := by
  unfold step at h
  split at h
  · exact .inl (Host.Outcome.next.inj h).symm
  next c rest hp =>
    refine .inr ⟨c, rest, hp, ?_⟩
    by_cases hr : s.resetAsserted = true
    · have hr' : ({ s with pending := rest } : State).resetAsserted = true := hr
      rcases exec_of_asserted hr' c with he | ⟨a, rfl⟩ | ⟨p, rfl⟩ | ⟨p, rfl⟩
      · exact .inl (Host.Outcome.next.inj (h.symm.trans he))
      all_goals exact .inr (Host.Outcome.next.inj h).symm
    · have hr' : ({ s with pending := rest } : State).Released := by simpa [State.Released] using hr
      exact .inr (Host.Outcome.next.inj (h.symm.trans (exec_next hr' c)))

/-- A property that ignores the queue and that every command's effect keeps is kept by every step. -/
theorem step_keeps {I : State → Prop} (hq : ∀ s q, I s → I { s with pending := q })
    (he : ∀ (c : Instr) (s : State), I s → I (s.after c)) {t : State} (hs : I s) (h : step s = .next t) : I t := by
  rcases step_cases h with rfl | ⟨c, rest, -, rfl | rfl⟩
  · exact hs
  · exact hq _ _ hs
  · exact he c _ (hq _ _ hs)

end Sys2Proof.Machine
end

