-- ==== Sys2Proof/Laws/Window.lean ====
section
/-! SUPPORT. What the refresh engine, the bank timers, the flip and a whole window leave alone, and what of the ports a
decision's choice depends on. Each operation has one lemma over the fields that its family leaves alone together
(`State.books`, `State.fixed`); `State.books_eq` and `State.fixed_eq` take the fields out. -/

namespace Sys2Proof.Machine

-- One proof after another: a thread for each would reserve more memory than the check allows.
set_option Elab.async false

variable (s : State)

/-! ### The refresh engine and the bank timers -/

/-- What no happening of the refresh engine and of the bank timers changes. -/
def State.books :=
  (s.resetAsserted, s.host, s.stamp, s.regions, s.remap, s.credit, s.arbiter, s.bus, s.freeCount, s.pending,
    s.mode.pages, s.mode.runSelect, s.events.mask)

theorem State.books_eq {s t : State} (h : t.books = s.books) :
    t.resetAsserted = s.resetAsserted ∧ t.host = s.host ∧ t.stamp = s.stamp ∧ t.regions = s.regions ∧
      t.remap = s.remap ∧ t.credit = s.credit ∧ t.arbiter = s.arbiter ∧ t.bus = s.bus ∧ t.freeCount = s.freeCount ∧
      t.pending = s.pending ∧ t.mode.pages = s.mode.pages ∧ t.mode.runSelect = s.mode.runSelect ∧
      t.events.mask = s.events.mask := by
  simpa [State.books] using h

@[simp] theorem State.post_books (k : EventKind) (o : Source) (t : Option (Fin 16)) (d : Nat) :
    (s.post k o t d).books = s.books := by simp [State.books]

@[simp] theorem State.retireOne_books (b : BankId) : (s.retireOne b).books = s.books := by
  unfold State.retireOne; dsimp only; split <;> rfl

@[simp] theorem State.retireUpTo_books (b : BankId) (n : Nat) : (s.retireUpTo b n).books = s.books := by
  induction n generalizing s with
  | zero => rfl
  | succ n ih => unfold State.retireUpTo; split <;> simp [ih]

@[simp] theorem State.retirementCheck_books (b : BankId) : (s.retirementCheck b).books = s.books :=
  s.retireUpTo_books ..

@[simp] theorem State.expiryAt_books (b : BankId) : (s.expiryAt b).books = s.books := by
  unfold State.expiryAt; dsimp only; split
  · split
    · rw [State.post_books]; rfl
    · rfl
  · simp

theorem State.refresh_books (r : RefreshEngine) : { s with refresh := r }.books = s.books := rfl

@[simp] theorem State.takeExpiry_books : s.takeExpiry.books = s.books := by
  unfold State.takeExpiry; dsimp only
  rw [State.refresh_books, foldl_keeps State.books State.retirementCheck fun t b => t.retirementCheck_books b,
    foldl_keeps State.books State.expiryAt fun t b => t.expiryAt_books b]

@[simp] theorem State.intervalExpiry_books : s.intervalExpiry.books = s.books := by
  unfold State.intervalExpiry; split <;> simp

@[simp] theorem State.endConditioning_books : s.endConditioning.books = s.books := by
  unfold State.endConditioning; rw [State.post_books]; rfl

@[simp] theorem State.openDelayExpiry_books (b : BankId) : (s.openDelayExpiry b).books = s.books := by
  unfold State.openDelayExpiry; split <;> rfl

@[simp] theorem State.closeDelayExpiry_books (b : BankId) : (s.closeDelayExpiry b).books = s.books := by
  unfold State.closeDelayExpiry; split <;> rfl

@[simp] theorem State.refreshTimeExpiry_books (b : BankId) : (s.refreshTimeExpiry b).books = s.books := by
  unfold State.refreshTimeExpiry; split
  · dsimp only; split
    · rw [State.endConditioning_books]; rfl
    · rfl
  · rfl

@[simp] theorem State.rowMinExpiry_books (b : BankId) : (s.rowMinExpiry b).books = s.books := by
  unfold State.rowMinExpiry; split <;> rfl

@[simp] theorem State.writeRecoveryExpiry_books (b : BankId) : (s.writeRecoveryExpiry b).books = s.books := by
  unfold State.writeRecoveryExpiry; split <;> rfl

@[simp] theorem State.bankRunOuts_books (b : BankId) : (s.bankRunOuts b).books = s.books := by
  unfold State.bankRunOuts; simp

@[simp] theorem State.conditioningEnd_books : s.conditioningEnd.books = s.books := by
  unfold State.conditioningEnd; split <;> simp

/-! ### A whole window -/

/-- What no window changes. -/
def State.fixed := (s.resetAsserted, s.stamp, s.remap, s.pending, s.mode.pages, s.events.mask)

theorem State.fixed_eq {s t : State} (h : t.fixed = s.fixed) :
    t.resetAsserted = s.resetAsserted ∧ t.stamp = s.stamp ∧ t.remap = s.remap ∧ t.pending = s.pending ∧
      t.mode.pages = s.mode.pages ∧ t.events.mask = s.events.mask := by
  simpa [State.fixed] using h

theorem State.fixed_of_books {s t : State} (h : t.books = s.books) : t.fixed = s.fixed := by
  obtain ⟨h₁, -, h₂, -, h₃, -, -, -, -, h₄, h₅, -, h₆⟩ := State.books_eq h
  simp [State.fixed, h₁, h₂, h₃, h₄, h₅, h₆]

@[simp] theorem State.post_fixed (k : EventKind) (o : Source) (t : Option (Fin 16)) (d : Nat) :
    (s.post k o t d).fixed = s.fixed := State.fixed_of_books (s.post_books ..)

@[simp] theorem State.settleDrain_fixed : s.settleDrain.fixed = s.fixed := by
  unfold State.settleDrain; split
  · rw [State.post_fixed]; rfl
  · rfl

@[simp] theorem State.release_fixed (r : Record) : (s.release r).fixed = s.fixed := by
  unfold State.release; dsimp only; split <;> rfl

@[simp] theorem State.finishClient_fixed (p : PortId) (r : Record) (st : FinishStatus) :
    (s.finishClient p r st).fixed = s.fixed := s.release_fixed r

@[simp] theorem State.moveBurst_fixed (r : Record) (drive : Option BurstData) : (s.moveBurst r drive).fixed = s.fixed := by
  unfold State.moveBurst; dsimp only; split <;> rfl

@[simp] theorem State.burstClient_fixed (p : PortId) (r : Record) : (s.burstClient p r).fixed = s.fixed := by
  unfold State.burstClient State.advanceClient; dsimp only
  split
  · simp; rfl
  · split <;> rfl

@[simp] theorem State.burstHost_fixed (r : Record) : (s.burstHost r).fixed = s.fixed := by
  have h : (s.sampleWord r).fixed = s.fixed := by unfold State.sampleWord; split <;> [rfl; (split <;> rfl)]
  exact ((s.sampleWord r).release_fixed r).trans h

@[simp] theorem State.issue_fixed (drive : Option BurstData) (a : Action) : (s.issue drive a).fixed = s.fixed := by
  cases a with
  | refresh b => exact (State.fixed_of_books (State.retirementCheck_books ..)).trans rfl
  | burst who r => cases who <;> simp [State.issue, State.issueBurst]
  | _ => rfl

@[simp] theorem State.decide_fixed (drive : Option BurstData) : (s.decide drive).fixed = s.fixed := by
  unfold State.decide; split
  · rfl
  · exact s.issue_fixed ..

theorem State.setSched_fixed (m : SchedState) : (s.setSched m).fixed = s.fixed := rfl

theorem State.flipPages_fixed : s.flipPages.fixed = s.fixed := rfl

@[simp] theorem State.takeFlip_fixed (ret : ReturnState) : (s.takeFlip ret).fixed = s.fixed := by
  unfold State.takeFlip State.postSwitchDone
  rw [State.post_fixed, State.setSched_fixed]
  split
  · rw [State.fixed_of_books (State.takeExpiry_books _), State.flipPages_fixed]
  · rw [State.flipPages_fixed]

theorem State.handWrap_fixed : s.handWrap.fixed = s.fixed := rfl

theorem State.arbiter_fixed (a : Arbiter) : { s with arbiter := a }.fixed = s.fixed := rfl

@[simp] theorem State.testWrap_fixed : s.testWrap.fixed = s.fixed := by
  unfold State.testWrap; split
  · dsimp only; split
    · split
      · rw [State.takeFlip_fixed, State.arbiter_fixed]
      · rfl
    · rfl
  · rfl

@[simp] theorem State.beginWindow_fixed : s.beginWindow.fixed = s.fixed := by
  unfold State.beginWindow; split <;> rfl

@[simp] theorem State.advanceWheel_fixed : s.advanceWheel.fixed = s.fixed := by
  unfold State.advanceWheel; split
  · rfl
  · rw [State.testWrap_fixed, State.handWrap_fixed]

@[simp] theorem State.abortRecord_fixed (p : PortId) (r : Record) : (State.abortRecord p s r).fixed = s.fixed := by
  simp [State.abortRecord]

@[simp] theorem State.stallPort_fixed (p : PortId) : (s.stallPort p).fixed = s.fixed := by
  unfold State.stallPort; dsimp only; split
  · rfl
  · exact foldl_keeps State.fixed (State.abortRecord p) (fun t r => t.abortRecord_fixed p r) _ _

@[simp] theorem State.refill_fixed : s.refill.fixed = s.fixed := by unfold State.refill; split <;> rfl

@[simp] theorem State.takeDue_fixed : s.takeDue.fixed = s.fixed := by
  unfold State.takeDue
  rw [State.fixed_of_books (State.intervalExpiry_books _), State.refill_fixed]
  exact foldl_keeps State.fixed State.bankRunOuts (fun t b => State.fixed_of_books (t.bankRunOuts_books b)) _ _

theorem State.endWindow_fixed : s.endWindow.fixed = s.fixed := rfl

theorem State.mapRecords_fixed (f : Record → Record) : (s.mapRecords f).fixed = s.fixed := rfl

theorem State.sampleReady_fixed (ready : BitVec 4) : (s.sampleReady ready).fixed = s.fixed := rfl

/-- A window leaves alone the RESET line, the stamp counter, the remap table, the waiting commands, the pages and the
event mask. -/
theorem State.window_fixed (ready : BitVec 4) (drive : Option BurstData) : (s.window ready drive).fixed = s.fixed := by
  unfold State.window; dsimp only
  rw [State.endWindow_fixed, State.takeDue_fixed, State.settleDrain_fixed,
    foldl_keeps State.fixed State.stallPort fun t p => t.stallPort_fixed p, State.mapRecords_fixed,
    State.advanceWheel_fixed, State.decide_fixed, State.sampleReady_fixed, State.beginWindow_fixed]

/-! ### The choice in a window that begins -/

section Choice

variable {s : State} {ports : Vector Port 4} {d : Bool} (hq : ∀ p, (ports.get p).queue = (s.ports.get p).queue)
  (hr : ∀ p, (ports.get p).ready = (s.ports.get p).ready)

include hq in
theorem State.queueOf_ports : { s with ports := ports, decided := d }.queueOf = s.queueOf := by
  funext who; cases who with
  | port p => exact hq p
  | host => rfl

include hr in
theorem State.readyFor_ports : { s with ports := ports, decided := d }.readyFor = s.readyFor := by
  funext who; cases who with
  | port p => exact hr p
  | host => rfl

include hq in
theorem State.outstanding_ports : { s with ports := ports, decided := d }.outstanding = s.outstanding := by
  unfold State.outstanding; rw [State.queueOf_ports hq]

include hr in
theorem State.offer_ports : { s with ports := ports, decided := d }.offer = s.offer := by
  funext who older r
  unfold State.offer; rw [State.readyFor_ports hr]; rfl

include hq hr in
theorem State.offers_ports : { s with ports := ports, decided := d }.offers = s.offers := by
  funext who
  have step : ∀ l older, { s with ports := ports, decided := d }.offersFrom who older l = s.offersFrom who older l := by
    intro l
    induction l with
    | nil => exact fun _ => rfl
    | cons r rest ih => intro older; simp only [State.offersFrom, State.offer_ports hr, ih]
  unfold State.offers; rw [State.queueOf_ports hq, step]

include hq hr in
/-- The choice of a decision sees the ports by their queues and their READY samples alone. -/
theorem State.choose_ports : { s with ports := ports, decided := d }.choose = s.choose := by
  have hit : { s with ports := ports, decided := d }.rowHit = s.rowHit := by
    funext who; unfold State.rowHit; rw [State.offers_ports hq hr]
  have start : { s with ports := ports, decided := d }.startAction = s.startAction := by
    funext who; unfold State.startAction; rw [State.offers_ports hq hr]
  have own : { s with ports := ports, decided := d }.ownerAction = s.ownerAction := by
    funext who; unfold State.ownerAction; rw [hit, start]
  have turn : { s with ports := ports, decided := d }.ownerTurn = s.ownerTurn := by
    unfold State.ownerTurn; rw [own]; rfl
  have late : { s with ports := ports, decided := d }.overdueChoice = s.overdueChoice := by
    unfold State.overdueChoice State.overdueOffers; rw [State.offers_ports hq hr]; rfl
  have close : { s with ports := ports, decided := d }.drainClose = s.drainClose := by
    unfold State.drainClose; rw [State.outstanding_ports hq]
  have idle : { s with ports := ports, decided := d }.idleClosable = s.idleClosable := by
    funext b; unfold State.idleClosable; rw [State.outstanding_ports hq]; rfl
  have pull : { s with ports := ports, decided := d }.pullInEligible = s.pullInEligible := by
    funext b; unfold State.pullInEligible; rw [State.outstanding_ports hq]; rfl
  have free : { s with ports := ports, decided := d }.freeWindow = s.freeWindow := by
    unfold State.freeWindow State.idleClose State.pullIn; rw [late, close, hit, start, idle, pull]; rfl
  unfold State.choose State.chooseRunning; rw [turn, free]; rfl

end Choice

/-- Where a window begins with its decision, the decision chooses as it would in the state before. -/
theorem State.choose_beginWindow (s : State) (ready : BitVec 4) :
    (s.beginWindow.sampleReady ready).choose = (s.sampleReady ready).choose := by
  have h : s.beginWindow.sampleReady ready =
      { s.sampleReady ready with
        ports := (s.beginWindow.sampleReady ready).ports, decided := s.beginWindow.decided } := by
    rw [s.beginWindow_eq]; rfl
  rw [h]
  refine State.choose_ports (fun p => ?_) (fun p => ?_)
  all_goals
    have hk := s.beginWindow_port_keeps p
    simp [State.sampleReady, hk]

end Sys2Proof.Machine
end

