-- ==== Sys2Proof/Tests/Slice0.lean ====
section
/-! SUPPORT. Tests. First small states, then: ill-formed terms refused, frames read from bytes written out from R174,
one or two steps per command with the outcome taken from the rule or the worked example that the comment names, and for
every obligation with hypotheses a state that meets them. -/

namespace Sys2Proof.Tests

-- One proof after another: a thread for each would reserve more memory than the check allows.
set_option Elab.async false

open Sys2Proof Sys2Proof.Machine

/-! ### Small states -/

/-- The state a command leads to. -/
def run (c : Instr) (s : State) : State :=
  match exec c s with
  | .next t => t
  | _ => s

/-- After reset, in a given scheduler state. -/
def inState (st : SchedState) : State := State.reset.setSched st

/-- A region over all logical groups of a bank, open to every requester. -/
def wholeBank (b : BankId) (cls : RefreshClass) : Region where
  enabled := true
  bank := b
  firstGroup := 0
  groupCount := 128
  readPermit := 0x1F
  writePermit := 0x1F
  cls := cls
  refCount := 0

/-- In RUN with port 0 enabled and region 0 over bank 0. -/
def served : State :=
  ((inState .run).modPort 0 fun k => { k with enabled := true }).modRegion 0 fun _ => wholeBank 0 .retain

/-- A READ of port 0 with tag 1: bank 0, row 5, bursts 0 to 3. -/
def readRecord (st : RecordState) (done : Nat) : Record where
  origin := .port 0
  tag := 1
  kind := .read
  bank := 0
  row := 5
  firstBurst := 0
  word := none
  length := 4
  region := 0
  stamp := 0
  state := st
  burstsDone := done
  age := 0
  preempted := false
  data := none

/-- Slot 0's WRITE of BEEFh to bank 0, row 5, burst 3, word 2. -/
def slotRecord : Record where
  origin := .slot 0
  tag := 0
  kind := .write
  bank := 0
  row := 5
  firstBurst := 3
  word := some 2
  length := 1
  region := 0
  stamp := 1
  state := .queued
  burstsDone := 0
  age := 0
  preempted := false
  data := some 0xBEEF

/-- Bank 0 OPEN on row 5 with `pins` pins. -/
def openOnFive (pins : Nat) : Bank where
  state := .opened 5 5
  rowMin := none
  writeRecovery := none
  pins := pins
  closePending := false

/-- Port 0 holds `queue`, bank 0 is `bank`, and region 0 counts the requests. -/
def withQueue (s : State) (queue : List Record) (bank : Bank) : State :=
  ((s.modPort 0 fun k => { k with queue := queue }).modBank 0 fun _ => bank).modRegion 0
    fun e => { e with refCount := queue.length }

/-- Port 0's READ is ACTIVE on the open row, with one burst done. -/
def reading : State := withQueue served [readRecord (.active 0) 1] (openOnFive 1)

/-- Slot 0's WRITE is QUEUED for the open row. -/
def hostWriting : State :=
  { (((served.modBank 0 fun _ => openOnFive 0).modRegion 0 fun e => { e with refCount := 1 }).modSlot 0
      fun k => { k with state := .queued, kind := .write }) with
    hostQueue := [slotRecord] }

/-- Both: port 0's READ ACTIVE and slot 0's WRITE QUEUED, with a command waiting. -/
def working : State :=
  { ((reading.modRegion 0 fun e => { e with refCount := 2 }).modSlot 0
      fun k => { k with state := .queued, kind := .write }) with
    hostQueue := [slotRecord]
    stamp := 2
    pending := [.windowDecision 0xF none] }

/-- Bank `b` owes `debt` units, its pointer at `pointer`. -/
def owing (s : State) (b : BankId) (debt : Int) (pointer : Nat) : State :=
  s.modAccount b fun a => { a with debt := debt, pointer := pointer }

/-- The interval timer of a running state at its default interval. -/
def expiring (s : State) : State := { s with refresh := { s.refresh with elapsed := 780 } }

/-- A window that has had its decision, in which port 0 has sent a BEAT. -/
def beaten (s : State) : State := { s.notify 0 (.beat 1 0) with decided := true }

/-- A window that has had its decision, with a refill in the next. -/
def refilling (s : State) : State :=
  { s with decided := true, credit := { count := 2, refillTimer := 10, refillDue := true } }

/-- A frame in the window that runs, away from PRST. -/
def now (bytes : List Byte) : Arrival where
  bytes := bytes
  inNextWindow := false
  metPrst := false

/-- A wheel wrap handed to mode control and not tested yet. -/
def wrapped (s : State) : State := { s with arbiter := { s.arbiter with wrapHanded := true } }

/-- The staged words and the table they go to. -/
def staged (s : State) (table : BitVec 2) (index : BitVec 8) (w0 w1 w2 : Word) : State :=
  { s with host := { s.host with tableSelect := table, tableIndex := index, stage := #v[w0, w1, w2] } }

/-- Slot `k` holds word address `a` and data `w`. -/
def addressed (s : State) (k : SlotId) (a : Nat) (w : Word) : State :=
  s.modSlot k fun e => { e with addrHigh := BitVec.ofNat 5 (a / 65536), addrLow := BitVec.ofNat 16 a, data := w }

/-! ### Ill-formed commands are refused (WellFormed) -/

theorem test_illFormed_unknownCommand : (Instr.unknownCommand 5).wellFormed = false := by decide
theorem test_illFormed_registerWrite : (Instr.registerWrite 0x00 1).wellFormed = false := by decide
theorem test_illFormed_registerWrite_slot : (Instr.registerWrite 0x13 1).wellFormed = false := by decide
theorem test_illFormed_request_kind : (Instr.request 0 (now [0x02, 0, 0, 0, 0])).wellFormed = false := by decide
theorem test_illFormed_request_short : (Instr.request 0 (now [0x01, 0, 0, 0])).wellFormed = false := by decide
theorem test_illFormed_cancel_kind : (Instr.cancel 0 (now [0x01, 0])).wellFormed = false := by decide
theorem test_illFormed_cancel_short : (Instr.cancel 0 (now [0x02])).wellFormed = false := by decide
theorem test_wellFormed_accepts :
    (Instr.unknownCommand 9).wellFormed = true ∧ (Instr.registerWrite 0x0A 1).wellFormed = true ∧
      (Instr.request 0 (now [0x01, 0, 0, 0, 0])).wellFormed = true ∧ (Instr.cancel 0 (now [0x02, 0])).wellFormed = true := by
  decide

/-! ### Frames and layouts, from bits written out -/

/-- R174: byte 1 is bank 2, WRITE, tag 9; byte 2 row 34h; byte 3 length 16, row bit 8 and 10; byte 4 burst 63. -/
theorem test_frame_request :
    parseFrame [0x01, 0b0_10_1_1001, 0x34, 0b1111_0_101, 0b00_111111] =
      .request { kind := .write, tag := 9, bank := 2, row := 0x534, firstBurst := 63, length := 16 } := by
  decide

theorem test_frame_cancel : parseFrame [0x02, 0b0000_0111] = .cancel 7 := by decide

/-- R174: DONE is 84h, the tag with status FLUSHED (2) and preempted, then bursts done. -/
theorem test_frame_done : (Notice.done 3 .flushed 5 true).frame = [0x84, 0b0_1_10_0011, 5] := by decide

/-- R3's example: A = 1,050,637 is bank 2, row 8, first burst 3, word 1. -/
theorem test_wordAddress :
    addrBank 1050637 = 2 ∧ addrRow 1050637 = 8 ∧ addrBurst 1050637 = 3 ∧ addrWord 1050637 = 1 := by
  decide

/-- No row of the table gives bits, so no word spells a command. -/
theorem test_tableWord_spells_none : decodeTableWord 16 0x1234 = none := by decide

/-! ### Host commands -/

/-- R175. -/
theorem test_powerOnReset : (run (.powerOnReset true) working).mode.sched = .stopped := by decide +kernel

/-- R175: while RESET is asserted commands have no effect. -/
theorem test_powerOnReset_holds :
    (run .start (run (.powerOnReset true) working)).mode.sched = .stopped := by decide +kernel

/-- R140. -/
theorem test_start : (run .start State.reset).mode.sched = .init := by decide +kernel

/-- R141: with nothing to drain the completion is taken in the same happening. -/
theorem test_hold_completes : (run .hold served).events.records = [.report .holdDone .none none 0] := by decide +kernel

/-- R141: an ACTIVE record holds the drain up. -/
theorem test_hold_drains : (run .hold reading).mode.sched = .drainHold := by decide +kernel

/-- R142. -/
theorem test_resume : (run .resume (inState .held)).mode.sched = .run := by decide +kernel

/-- R142. -/
theorem test_resume_refused : (run .resume served).host.result = .wrongState := by decide +kernel

/-- R144: in STOPPED a valid SWITCH flips at once, with the selector as detail. R94, R96: the timer is at 0 in a window that
has had its decision and counts it, or at 0 in the next, before its decision, where the refill of that window still falls. -/
theorem test_switch_stopped :
    (run .switch State.reset).events.records = [.report .switchDone .none none 1] ∧
      (run .switch (refilling State.reset)).credit = { count := 2, refillTimer := 1, refillDue := false } ∧
      (run (.switch true) (refilling State.reset)).credit = { count := 2, refillTimer := 0, refillDue := true } := by
  decide +kernel

/-- R136, check 4: port 0 is enabled and the edit page's wheel of FREE entries does not name it. -/
theorem test_switch_missing_port :
    (run .switch { served with
      mode := { served.mode with pages := put served.mode.pages 1 { Page.default with wheel := Vector.replicate 16 .free } } }
    ).host.detail = 4 := by
  decide +kernel

/-- R135. -/
theorem test_pageCopy :
    ((run .pageCopy { served with
      mode := { served.mode with pages := put served.mode.pages 1 { Page.default with openDelay := 7 } } }
    ).mode.pages.get 1).openDelay = 3 := by
  decide +kernel

/-- R151: the ACTIVE record is flushed and the bank marked. -/
theorem test_softReset :
    let t := run .softReset reading
    t.mode.sched = .held ∧ (t.ports.get 0).outbound = [.done 1 .flushed 1 false] ∧
      (t.banks.get 0).closePending = true ∧ (t.banks.get 0).pins = 0 := by
  decide +kernel

/-- R23, R151: the DONE notices after the BEAT of the window that runs, and in the next window. R96, R150: the restarted
timer counts a window that has had its decision. -/
theorem test_softReset_window :
    let t := run (.softReset true) (beaten reading)
    ((run .softReset (beaten reading)).ports.get 0).outbound = [.beat 1 0, .done 1 .flushed 1 false] ∧
      (t.ports.get 0).outbound = [.done 1 .flushed 1 false] ∧ (t.ports.get 0).outboundLast = [.beat 1 0] ∧
      (run .softReset (refilling State.reset)).credit = { count := 4, refillTimer := 1, refillDue := false } ∧
      (run (.softReset true) (refilling State.reset)).credit = { count := 4, refillTimer := 0, refillDue := false } := by
  decide +kernel

/-- R63, R64: a staged entry over groups 127 to 127 of bank 0 meets region 0. -/
theorem test_tableWriteRegion_overlap :
    (run .tableWriteRegion (staged served 0 1 0x017F 0 0x8000)).host.result = .overlap := by decide +kernel

/-- R66: the same groups of bank 1 are free. -/
theorem test_tableWriteRegion :
    ((run .tableWriteRegion (staged served 0 1 0x017F 0x0403 0x8005)).regions.get 1) =
      { enabled := true, bank := 1, firstGroup := 127, groupCount := 1, readPermit := 3, writePermit := 4, cls := .half,
        refCount := 0 } := by
  decide +kernel

/-- R9: outside STOPPED and HELD. -/
theorem test_tableWriteRemap_notHeld :
    (run .tableWriteRemap (staged served 1 0 5 0 0x8000)).host.result = .notHeld := by decide +kernel

/-- R11: bank 0 holds row 5 open in HELD. -/
theorem test_tableWriteRemap_rowOpen :
    (run .tableWriteRemap (staged (reading.setSched .held) 1 0 5 0 0x8000)).host.result = .rowOpen := by decide +kernel

/-- R68: the rows of an OFF entry hold nothing once its class is HALF or it is disabled, whether or not a pointer passed
them; an OFF entry cut down to group 0 wakes none. -/
theorem test_tableWriteRegion_wakes :
    let s := { served.modRegion 0 fun _ => wholeBank 0 .off with dram := [(dramAddr 0 40 1, 7)] }
    (run .tableWriteRegion (staged s 0 0 0x8000 0x1F1F 0x8004)).dram = [] ∧
      (run .tableWriteRegion (staged s 0 0 0x8000 0x1F1F 0x0008)).dram = [] ∧
      (run .tableWriteRegion (staged s 0 0 0x0100 0x1F1F 0x8008)).dram = [(dramAddr 0 40 1, 7)] := by
  decide +kernel

/-- R12 and log 30: spare 3 of bank 0, left by entry 0 and added again with no REFRESH of group 128 between, and with
one. -/
theorem test_tableWriteRemap_readds_spare :
    let s := { inState .held with
      dram := [(dramAddr 0 2051 0, 7)]
      remap := put State.reset.remap 0 { valid := true, bank := 0, faultyRow := 5, spare := 3 } }
    let s := run .tableWriteRemap (staged s 1 0 5 3 0)
    (run .tableWriteRemap (staged s 1 1 6 3 0x8000)).dram = [] ∧
      (run .tableWriteRemap (staged (s.noteRefresh 0 128) 1 1 6 3 0x8000)).dram = [(dramAddr 0 2051 0, 7)] := by
  decide +kernel

/-- R12: a replacement that keeps bank 0 and row 5 leaves row 5's own words and their mark; one that names row 6 gives row 5
back, with no REFRESH of its group since the add. -/
theorem test_tableWriteRemap_replaces :
    let s := { inState .held with
      dram := [(dramAddr 0 5 0, 7)]
      remap := put State.reset.remap 0 { valid := true, bank := 0, faultyRow := 5, spare := 3 }
      history := { RowHistory.powerOn with unrefreshed := put RowHistory.powerOn.unrefreshed 0 true } }
    let t := run .tableWriteRemap (staged s 1 0 5 4 0x8000)
    t.dram = [(dramAddr 0 5 0, 7)] ∧ t.history.unrefreshed.get 0 = true ∧
      (run .tableWriteRemap (staged s 1 0 6 3 0x8000)).dram = [] ∧
      (run .tableWriteRemap (staged (t.noteRefresh 0 0) 1 0 5 4 0)).dram = [(dramAddr 0 5 0, 7)] := by
  decide +kernel

/-- R134: field 4, REFRESH_TIME, takes 4 to 63. -/
theorem test_tableWritePage :
    ((run .tableWritePage (staged served 2 4 63 0 0)).mode.pages.get 1).refreshTime = 63 ∧
      (run .tableWritePage (staged served 2 4 64 0 0)).host.result = .badValue := by
  decide +kernel

/-- R157: a pop of an empty queue answers NOTHING. -/
theorem test_eventPop_empty : (run .eventPop served).host.result = .nothing := by decide +kernel

/-- R165. -/
theorem test_unknownCommand : (run (.unknownCommand 9) served).host.result = .badValue := by decide +kernel

/-- R38: no region covers bank 2, so the slot fails NO_REGION with H's detail. -/
theorem test_goRead_noRegion :
    let t := run (.goRead 1) (addressed served 1 1050637 0)
    (t.host.slots.get 1).state = .failed .noRegion ∧ t.events.records = [.report .accessDenied .none (some 1) 20] := by
  decide +kernel

/-- R39, R41: row 5, column 14 of bank 0. -/
theorem test_goWrite_filed :
    (run (.goWrite 0) (addressed served 0 1294 0xBEEF)).hostQueue = [{ slotRecord with stamp := 0 }] := by decide +kernel

/-- R169. -/
theorem test_ack_queued_busy : (run (.ack 0) working).host.result = .busy := by decide +kernel

/-- R169. -/
theorem test_ack_done :
    ((run (.ack 2) (served.modSlot 2 fun k => { k with state := .done })).host.slots.get 2).state = .free := by
  decide +kernel

/-- R28, R164. -/
theorem test_portEnable :
    let t := run (.portEnable 3) served
    (t.ports.get 3).state = .enabled ∧ t.host.portSelect = 3 := by
  decide +kernel

/-- R29: the flush, and its drain completion does not come while the bank is OPEN (R145). -/
theorem test_portDisable :
    let t := run (.portDisable 0) (reading.setSched .drainHold)
    (t.ports.get 0).outbound = [.done 1 .flushed 1 false] ∧ t.mode.sched = .drainHold := by
  decide +kernel

/-- R29: the DONE notices leave in the window of the write. -/
theorem test_portDisable_window :
    let t := run (.portDisable 0 true) (beaten reading)
    ((run (.portDisable 0) (beaten reading)).ports.get 0).outbound = [.beat 1 0, .done 1 .flushed 1 false] ∧
      (t.ports.get 0).outbound = [.done 1 .flushed 1 false] ∧ (t.ports.get 0).outboundLast = [.beat 1 0] := by
  decide +kernel

/-- R164. -/
theorem test_portSelect : (run (.portSelect 2) served).host.portSelect = 2 := by decide +kernel

/-- R164. -/
theorem test_bankStatusSelect : (run (.bankStatusSelect 3 1) served).host.view = 1 := by decide +kernel

/-- R172: setting the enable of a DONE slot asserts INT. -/
theorem test_interruptEnableWrite :
    let s := served.modSlot 2 fun k => { k with state := .done }
    s.int = false ∧ (run (.interruptEnableWrite 4) s).int = true := by
  decide +kernel

/-- R154: kind 2, HOLD_DONE, disabled. -/
theorem test_eventEnableWrite : (run .hold (run (.eventEnableWrite 0xFD) served)).events.records = [] := by decide +kernel

/-- R163: the address high register keeps its five bits. -/
theorem test_registerWrite :
    ((run (.registerWrite 0x14 0xFFFF) served).host.slots.get 1).addrHigh = 0x1F := by decide +kernel

/-- R29, R163: a write of action 2 to port control in the next window. -/
theorem test_registerWrite_window :
    ((run (.registerWrite 0x02 0x20 true) (beaten reading)).ports.get 0).outbound = [.done 1 .flushed 1 false] := by
  decide +kernel

/-! ### Messages and lines -/

/-- R39: ACCEPT, and the record at the tail. -/
theorem test_request_filed :
    let t := run (.request 0 (now [0x01, 0x01, 5, 0x30, 0])) served
    (t.ports.get 0).queue = [readRecord .queued 0] ∧ (t.ports.get 0).outbound = [.accept 1] := by
  decide +kernel

/-- R36, check 4. -/
theorem test_request_dupTag :
    ((run (.request 0 (now [0x01, 0x01, 5, 0x30, 0])) reading).ports.get 0).outbound = [.refuse 1 .dupTag] := by decide +kernel

/-- R18: DONE(1, CANCELLED, 1, no), and the pin falls. -/
theorem test_cancel :
    let t := run (.cancel 0 (now [0x02, 1])) reading
    (t.ports.get 0).outbound = [.done 1 .cancelled 1 false] ∧ (t.banks.get 0).pins = 0 := by
  decide +kernel

/-- R17. -/
theorem test_discardedFrame :
    (run (.discardedFrame 0 (now [0x07])) served).events.records = [.report .protocolError (.port 0) none 7] := by decide +kernel

/-- R15: a frame late in the window of a decision is its second, a frame in the next window is taken. -/
theorem test_frame_windows :
    let s := run (.windowDecision 0xF none) (run (.cancel 0 (now [0x02, 9])) served)
    (run (.cancel 0 (now [0x02, 9])) s).events.records = [.report .protocolError (.port 0) none 2] ∧
      (run (.cancel 0 { now [0x02, 9] with inNextWindow := true }) s).events.records = [] := by
  decide +kernel

/-- R15, R32: a frame that PRST met is discarded with no event and does not count. -/
theorem test_frame_metPrst :
    run (.request 0 { now [0x01, 0x01, 5, 0x30, 0] with metPrst := true }) served = served := by
  decide +kernel

/-- R30: no DONE. -/
theorem test_prstAssert :
    let t := run (.prstAssert 0) reading
    (t.ports.get 0).state = .inReset ∧ (t.ports.get 0).outbound = [] ∧ (t.regions.get 0).refCount = 0 := by
  decide +kernel

/-- R32. -/
theorem test_prstDeassert : ((run (.prstDeassert 0) (run (.prstAssert 0) served)).ports.get 0).state = .enabled := by
  decide +kernel

/-! ### Windows and timed happenings -/

/-- The first window of the stretch of 6.7: credit 1, bank 1 OPEN on row 9, bank 2 in debt, a QUEUED READ of port 0 on
bank 0 row 5 and a QUEUED WRITE of port 1 on bank 1 row 9. -/
def stretch : State :=
  let s := withQueue served [readRecord .queued 0] .powerOn
  let write : Record :=
    { readRecord .queued 0 with origin := .port 1, tag := 3, kind := .write, bank := 1, row := 9, length := 2, stamp := 1 }
  let s := s.modPort 1 fun k => { k with enabled := true, queue := [write] }
  let s := s.modBank 1 fun k => { k with state := .opened 9 9 }
  { owing s 2 1 0 with credit := { count := 1, refillTimer := 7, refillDue := false } }

/-- Window 100 of 6.7: OPEN bank 0, row 5; credit after 0; the bank OPENING with two windows left of three. -/
theorem test_window_100 :
    let t := run (.windowDecision 0b0011 none) stretch
    t.bus = some (.openRow 0 5) ∧ t.credit.count = 0 ∧ (t.banks.get 0).state = .opening 5 5 2 := by
  decide +kernel

/-- Window 101 of 6.7: WRITE bank 1, position 0; BEAT(3, 0); tag 3 ACTIVE; bank 1 pin count 1. -/
theorem test_window_101 :
    let t := run (.windowDecision 0b0011 (some ⟨1, 2, 3, 4⟩)) (run (.windowDecision 0b0011 none) stretch)
    t.bus = some (.write 1 0 0xF #v[some 1, some 2, some 3, some 4]) ∧ (t.ports.get 1).outbound = [.beat 3 0] ∧
      (t.banks.get 1).pins = 1 ∧ t.dram.read (dramAddr 1 9 2) = some 3 := by
  decide +kernel

/-- R75. -/
theorem test_openDelayExpiry :
    ((run (.openDelayExpiry 1) (served.modBank 1 fun k => { k with state := .opening 9 9 0 })).banks.get 1).state =
      .opened 9 9 := by
  decide +kernel

/-- R76. -/
theorem test_closeDelayExpiry :
    ((run (.closeDelayExpiry 1) (served.modBank 1 fun k => { k with state := .closing 0 })).banks.get 1).state =
      .closed := by
  decide +kernel

/-- R77. -/
theorem test_refreshTimeExpiry :
    ((run (.refreshTimeExpiry 1) (served.modBank 1 fun k => { k with state := .refreshing 0 })).banks.get 1).state =
      .closed := by
  decide +kernel

/-- R72. -/
theorem test_rowMinExpiry :
    ((run (.rowMinExpiry 1) (served.modBank 1 fun k => { k with rowMin := some 0 })).banks.get 1).rowMin = none := by
  decide +kernel

/-- R72. -/
theorem test_writeRecoveryExpiry :
    ((run (.writeRecoveryExpiry 1) (served.modBank 1 fun k => { k with writeRecovery := some 0 })).banks.get
      1).writeRecovery = none := by
  decide +kernel

/-- R94: a refill at the capacity is lost. -/
theorem test_refill_full :
    (run .refill { served with credit := { count := 4, refillTimer := 10, refillDue := true } }).credit =
      { count := 4, refillTimer := 0, refillDue := false } := by
  decide +kernel

/-- R112, R114, R123: bank 0 rises to 8 and its record is suspended; bank 1 stands at 8. -/
theorem test_intervalExpiry :
    let t := run .intervalExpiry (expiring (owing (owing reading 0 7 0) 1 8 40))
    t.events.records = [.report .preempt (.bank 0) none 1, .report .refreshOverrun (.bank 1) none 40] ∧
      (t.ports.get 0).queue = [{ readRecord .suspended 1 with preempted := true }] ∧ (t.account 1).debt = 8 := by
  decide +kernel

/-- R119, R121: under OFF the unit is paid by passing the group. -/
theorem test_intervalExpiry_retires :
    ((run .intervalExpiry (expiring (served.modRegion 0 fun _ => wholeBank 0 .off))).account 0) =
      { debt := 0, pointer := 1, oddPass := false } := by
  decide +kernel

/-- R55: the record's count reaches STALL_LIMIT, 512. -/
theorem test_stallAbort :
    let t := run (.stallAbort 0 1) (withQueue served [readRecord (.active 511) 1] (openOnFive 1))
    (t.ports.get 0).outbound = [.done 1 .stalled 1 false] ∧
      t.events.records = [.report .stallAbort (.port 0) (some 1) 1] := by
  decide +kernel

/-- R145. -/
theorem test_drainComplete : (run .drainComplete (inState .drainHold)).mode.sched = .held := by decide +kernel

/-- R147, R153: page 1 runs, and the detail is the new selector. -/
theorem test_flip :
    let t := run .flip (wrapped (inState (.drainSwitch .held)))
    t.mode.runSelect = 1 ∧ t.mode.sched = .held ∧ t.events.records = [.report .switchDone .none none 1] := by
  decide +kernel

/-- R92, R146: a position of 0 that SOFT_RESET has set is no wrap; the decision at the last place of the wheel wraps, and
page 1 runs. -/
theorem test_flip_needs_wrap :
    let s := run .switch (run .softReset reading)
    let drained := { s with banks := State.reset.banks }
    let last := { drained with arbiter := { drained.arbiter with wheelPosition := 7 } }
    (run .flip drained).mode.sched = .drainSwitch .held ∧ (run (.windowDecision 0xF none) last).mode.runSelect = 1 := by
  decide +kernel

/-- R128. -/
theorem test_conditioningEnd :
    let s := (inState .init).modBank 3 fun k => { k with state := .refreshing 0 }
    let t := run .conditioningEnd { s with refresh := { s.refresh with conditioning := .trailing } }
    t.mode.sched = .run ∧ t.refresh.conditioning = .idle ∧ t.events.records = [.report .initDone .none none 0] := by
  decide +kernel

/-! ### Laws of the small states -/

theorem default_inRange : Page.default.InRange := by constructor <;> decide

theorem pagesSound_of {s : State} (h : ∀ i, s.mode.pages.get i = .default) (hw : s.arbiter.wheelPosition < 8) :
    s.PagesSound :=
  ⟨fun i => h i ▸ default_inRange, by rw [State.runPage, h]; exact hw⟩

theorem queuesSound_of {s : State}
    (h : ∀ p, (s.ports.get p).queue.length ≤ 8 ∧ ((s.ports.get p).queue.map Record.tag).Nodup ∧
      (∀ r ∈ (s.ports.get p).queue, r.burstsDone < r.length) ∧
      ((s.ports.get p).state ≠ .enabled → (s.ports.get p).queue = []))
    (hi : s.mode.sched = .stopped ∨ s.mode.sched = .init → s.outstanding = []) : s.QueuesSound :=
  ⟨fun p => ⟨(h p).1, (h p).2.1, (h p).2.2.1, (h p).2.2.2⟩, hi⟩

theorem disjoint_of_first {s : State} (h : ∀ i, (s.regions.get i).enabled = true → i = 0) : s.RegionsDisjoint := by
  intro i j b g hi hj
  simp only [Region.covers, Bool.and_eq_true] at hi hj
  rw [h i hi.1.1.1, h j hj.1.1.1]

theorem conditioningSound_of {s : State} (h : s.mode.sched ≠ .init) (hc : s.refresh.conditioning = .idle) :
    s.ConditioningSound :=
  ⟨by simp [h, hc], by simp [hc]⟩

theorem noAbort_of {s : State} {ready : BitVec 4} (h : ∀ p, s.sampled ready p = true) : s.NoAbort ready := by
  intro p hp; rw [h p] at hp; cases hp

theorem noFlip_of {s : State} {ready : BitVec 4} (h : s.arbiter.wheelPosition + 1 < s.runPage.wheelLength) :
    ¬s.FlipsIn ready := fun hf => by have := hf.2.1; omega

theorem reading_pages : reading.PagesSound := pagesSound_of (by decide +kernel) (by decide +kernel)

theorem reading_queues : reading.QueuesSound := queuesSound_of (by decide +kernel) (by decide +kernel)

/-! ### The hypotheses of the statements can be met

Each theorem gives, clause by clause, states and operands that meet a statement's hypotheses together. -/

theorem witness_StepRunsFrontCommand :
    working.pending = .windowDecision 0xF none :: [] ∧ State.reset.pending = [] := ⟨rfl, rfl⟩

theorem witness_ResetLineHoldsPowerOnValues :
    working.Released ∧ (run (.powerOnReset true) working).resetAsserted = true ∧
      (∀ a, Instr.start ≠ .powerOnReset a) ∧ (∀ p, Instr.start ≠ .prstAssert p) ∧
      ∀ p, Instr.start ≠ .prstDeassert p :=
  ⟨rfl, rfl, by simp, by simp, by simp⟩

/-- Every law at once, in a state with an ACTIVE record, a host record and a waiting command that leads on. -/
theorem witness_StepKeepsLaws : working.Sound ∧ ∃ t, step working = .next t := by
  refine ⟨?_, _, rfl⟩
  exact {
    memory := by decide
    pages := pagesSound_of (by decide +kernel) (by decide +kernel)
    runPage := ⟨⟨by decide +kernel, by decide +kernel, by decide +kernel⟩, fun ret h => by cases ret <;> cases h⟩
    ranges := by unfold State.RegionsInRange; decide +kernel
    regions := disjoint_of_first (by decide +kernel)
    remap := by unfold State.RemapLaw; decide +kernel
    rows := by
      intro b row h
      have hb : ∀ b, (working.banks.get b).openRow? = none ∨ (working.banks.get b).openRow? = some 5 ∧
          (working.banks.get b).physRow? = some (working.translate b 5) := by
        decide +kernel
      rcases hb b with hb | ⟨hb, hp⟩
      · rw [hb] at h; cases h
      · rw [hb] at h; cases h; exact hp
    queues := queuesSound_of (by decide +kernel) (by decide +kernel)
    hostQueue := ⟨by decide +kernel, by decide +kernel, by decide +kernel, by decide +kernel⟩
    pins := by unfold State.PinLaw; decide +kernel
    marks := by unfold State.MarksSound; decide +kernel
    counts := by unfold State.CountLaw; decide +kernel
    accounts := by unfold State.AccountsInRange; decide +kernel
    pointers := by unfold State.PointersNeedRefresh; decide +kernel
    critical := by unfold State.CriticalBanksFree; decide +kernel
    conditioning := conditioningSound_of (by decide +kernel) (by decide +kernel)
    credit := by unfold State.CreditInRange; decide +kernel
    events := ⟨by decide +kernel, fun h => absurd h (by decide +kernel), by intro n h; cases h⟩ }

theorem witness_SelectAndEnableWritesStore : working.Released := rfl

theorem witness_RegisterWriteStores :
    (beaten working).Released ∧ (0x0F#5 ∈ [0x01#5, 0x05#5, 0x06#5, 0x07#5, 0x08#5, 0x0F#5]) ∧
      (0xFFFC : Word).setWidth 2 = 0#2 :=
  ⟨rfl, by decide, by decide⟩

theorem witness_RegisterWriteDecodesCommands :
    (true = true → served.resetAsserted = false) ∧ ((0xFFF1 : Word).setWidth 4, Instr.start) ∈
        [(1#4, Instr.start), (2#4, .hold), (3#4, .resume), (4#4, .switch), (5#4, .pageCopy), (6#4, .softReset),
         (8#4, .eventPop)] ∧
      ((7 : Word).setWidth 4 = 7#4 ∧ served.host.tableSelect = 0 ∧ (staged served 1 0 0 0 0).host.tableSelect = 1 ∧
        (staged served 3 0 0 0 0).host.tableSelect = 3) ∧
      namesCommand ((9 : Word).setWidth 4) = false ∧
      ((0x13 : Word).setWidth 2 = BitVec.ofNat 2 3 ∧ (0x13 : Word).extractLsb' 4 2 = 1#2 ∧
        (0x23 : Word).extractLsb' 4 2 = 2#2 ∧ (0x33 : Word).extractLsb' 4 2 ≠ 1#2 ∧ (0x33 : Word).extractLsb' 4 2 ≠ 2#2) ∧
      ((0xFD : Word).setWidth 2 = 1#2 ∧ (0xFE : Word).setWidth 2 = 2#2 ∧ (0xFF : Word).setWidth 2 = 3#2) := by
  decide

/-- An event queue of `n` HOLD_DONE records. -/
def holding (n : Nat) (last : List Event) : State :=
  { served with events := { served.events with records := List.replicate n (.report .holdDone .none none 0) ++ last } }

theorem witness_EventPopAndUnknownCommand :
    (holding 1 []).Released ∧ (holding 1 []).events.records = .report .holdDone .none none 0 :: [] ∧
      served.events.records = [] ∧ namesCommand 0 = false ∧ namesCommand 15 = false :=
  ⟨rfl, rfl, rfl, rfl, rfl⟩

/-- The queue with room, with OVERFLOW as its sixteenth record, and with 15 records of another kind. -/
theorem witness_PostFollowsMaskAndRoom :
    ((holding 14 []).events.Sound ∧ (holding 14 []).events.records.length < 15 ∧
      (holding 14 []).events.mask.getLsbD (EventKind.initDone.code - 1) = true) ∧
    ((holding 15 [.overflow 255]).events.Sound ∧
      14 ≤ (List.replicate 15 (Event.report .holdDone .none none 0)).length ∧
      (holding 15 [.overflow 255]).events.records = List.replicate 15 (.report .holdDone .none none 0) ++ [.overflow 255]) ∧
    ((holding 15 []).events.Sound ∧ (holding 15 []).events.records.length = 15 ∧
      ∀ n, (holding 15 []).events.records.getLast? ≠ some (.overflow n)) ∧
    (run (.eventEnableWrite 0) served).events.Sound ∧
      (run (.eventEnableWrite 0) served).events.mask.getLsbD (EventKind.protocolError.code - 1) = false :=
  ⟨⟨⟨by decide +kernel, fun h => absurd h (by decide +kernel), by simp [holding, served, inState, State.reset, State.modRegion, State.modPort,
      State.setSched]⟩, by decide +kernel, by decide +kernel⟩,
   ⟨⟨by decide +kernel, fun _ => ⟨255, rfl⟩, by simp [holding]⟩, by decide, rfl⟩,
   ⟨⟨by decide +kernel, fun h => absurd h (by decide +kernel), by simp [holding, served, inState, State.reset, State.modRegion, State.modPort,
      State.setSched]⟩, by decide +kernel, by intro n h; cases h⟩,
   ⟨by decide +kernel, fun h => absurd h (by decide +kernel), by intro n h; cases h⟩, by decide +kernel⟩

theorem witness_InterruptLineFollowsItsSources : working.Released := rfl

/-- A full region entry; a command status with a detail; a full queue; each kind of head record; each table at its last
index and past it; each view of a bank; a slot in each state. -/
theorem witness_TableWordsRoundTrip :
    (let e : Region := { wholeBank 3 .off with firstGroup := 127, groupCount := 128, refCount := 36 }
     e.firstGroup ≤ 127 ∧ e.groupCount ≤ 128 ∧ e.refCount ≤ 36) ∧
    (working.Released ∧ working.host.detail ≤ 7 ∧ (working.ports.get working.host.portSelect).queue.length ≤ 8 ∧
      working.events.records.length ≤ 16 ∧ working.events.records = [] ∧ working.credit.count ≤ 8) ∧
    (∃ rest, (holding 1 []).events.records = .report .holdDone .none none 0 :: rest) ∧
    (∃ rest, { served with events := { served.events with records := [.overflow 255] } }.events.records =
      .overflow 255 :: rest) ∧
    (let s := staged served 0 15 0 0 0
     s.host.tableSelect = 0 ∧ s.host.tableIndex.toNat = (15 : Fin 16).val ∧ (s.regions.get 15).firstGroup ≤ 127 ∧
       (s.regions.get 15).groupCount ≤ 128 ∧ (s.regions.get 15).refCount ≤ 36) ∧
    (let s := staged served 1 7 0 0 0
     s.host.tableSelect = 1 ∧ s.host.tableIndex.toNat = (7 : Fin 8).val) ∧
    (let s := staged served 3 29 0 0 0
     2 ≤ s.host.tableSelect.toNat ∧ s.host.tableIndex.toNat ≤ 29 ∧ s.runPage.field s.host.tableIndex.toNat ≤ 65535) ∧
    (16 ≤ (staged served 0 16 0 0 0).host.tableIndex.toNat ∧ 8 ≤ (staged served 1 8 0 0 0).host.tableIndex.toNat ∧
      30 ≤ (staged served 2 30 0 0 0).host.tableIndex.toNat) ∧
    (reading.host.view = 0 ∧ (reading.banks.get 0).pins ≤ 16 ∧ -4 ≤ (reading.account 0).debt ∧
      (reading.account 0).debt ≤ 8) ∧
    ((run (.bankStatusSelect 0 1) reading).host.view = 1 ∧ (reading.banks.get 0).openRow? = some 5 ∧
      (reading.banks.get 1).openRow? = none) ∧
    ((run (.bankStatusSelect 0 2) reading).host.view = 2 ∧ (reading.banks.get 0).physRow? = some 5 ∧
      (reading.banks.get 1).physRow? = none) ∧
    ((run (.bankStatusSelect 0 3) reading).host.view = 3 ∧ (reading.account 0).pointer ≤ 128) ∧
    ((working.host.slots.get 0).state = .queued ∧ (working.host.slots.get 1).state = .free ∧
      ((served.modSlot 3 fun k => { k with state := .done }).host.slots.get 3).state = .done ∧
      ((served.modSlot 3 fun k => { k with state := .failed .flushed }).host.slots.get 3).state = .failed .flushed) :=
  ⟨by decide, ⟨rfl, by decide +kernel, by decide +kernel, by decide +kernel, rfl, by decide +kernel⟩, ⟨_, rfl⟩, ⟨_, rfl⟩,
    by decide +kernel, by decide +kernel, by decide +kernel, by decide +kernel, by decide +kernel, by decide +kernel,
    by decide +kernel, by decide +kernel, by decide +kernel⟩

/-- The last word of bank 0, the highest address that region 0 covers. -/
theorem witness_GoFilesHostRequest :
    let s := addressed served 3 524287 7
    (s.Released ∧ (s.host.slots.get 3).state = .free ∧ s.mode.sched ≠ .stopped ∧ s.mode.sched ≠ .init) ∧
      (let a := (s.host.slots.get 3).addrHigh.toNat * 65536 + (s.host.slots.get 3).addrLow.toNat
       (0 : BankId).val = a / 524288 ∧ (2047 : Fin 2048).val = a / 256 % 2048 ∧ (63 : Fin 64).val = a % 256 / 4 ∧
        (3 : Fin 4).val = a % 4) ∧
      s.RegionsDisjoint ∧ (s.regions.get 0).covers 0 (2047 / 16) = true ∧ (s.regions.get 0).cls ≠ .off ∧
      (s.regions.get 0).permits .host .write = true :=
  ⟨⟨rfl, by decide +kernel, by decide +kernel, by decide +kernel⟩, by decide +kernel,
    disjoint_of_first (by decide +kernel), by decide +kernel, by decide +kernel, by decide +kernel⟩

/-- The address of bank 2 that no region covers; region 0 as OFF, and as closed to the host. -/
theorem witness_GoRefused :
    (let s := addressed served 1 1050637 0
     let a := (s.host.slots.get 1).addrHigh.toNat * 65536 + (s.host.slots.get 1).addrLow.toNat
     s.Released ∧ ((2 : BankId).val = a / 524288 ∧ (8 : Fin 2048).val = a / 256 % 2048) ∧
       (s.host.slots.get 1).state = .free ∧ s.mode.sched ≠ .stopped ∧ s.mode.sched ≠ .init ∧
       ∀ i, (s.regions.get i).covers 2 (8 / 16) = false) ∧
    (let a := (working.host.slots.get 0).addrHigh.toNat * 65536 + (working.host.slots.get 0).addrLow.toNat
     working.Released ∧ ((0 : BankId).val = a / 524288 ∧ (0 : Fin 2048).val = a / 256 % 2048) ∧
       (working.host.slots.get 0).state ≠ .free) ∧
    (let a := (State.reset.host.slots.get 0).addrHigh.toNat * 65536 + (State.reset.host.slots.get 0).addrLow.toNat
     State.reset.Released ∧ ((0 : BankId).val = a / 524288 ∧ (0 : Fin 2048).val = a / 256 % 2048) ∧
       (State.reset.host.slots.get 0).state = .free ∧ State.reset.mode.sched = .stopped) ∧
    (let s := served.modRegion 0 fun _ => wholeBank 0 .off
     (s.host.slots.get 0).state = .free ∧ s.RegionsDisjoint ∧ (s.regions.get 0).covers 0 (0 / 16) = true ∧
       (s.regions.get 0).cls = .off) ∧
    let s := served.modRegion 0 fun e => { e with writePermit := 0x0F }
    (s.host.slots.get 0).state = .free ∧ s.RegionsDisjoint ∧ (s.regions.get 0).covers 0 (0 / 16) = true ∧
      (s.regions.get 0).cls ≠ .off ∧ (s.regions.get 0).permits .host .write = false :=
  ⟨⟨rfl, by decide +kernel, by decide +kernel, by decide +kernel, by decide +kernel, by decide +kernel⟩,
   ⟨rfl, by decide +kernel, by decide +kernel⟩,
   ⟨rfl, by decide +kernel, by decide +kernel, by decide +kernel⟩,
   ⟨by decide +kernel, disjoint_of_first (by decide +kernel), by decide +kernel, by decide +kernel⟩,
   ⟨by decide +kernel, disjoint_of_first (by decide +kernel), by decide +kernel, by decide +kernel, by decide +kernel⟩⟩

theorem witness_AckFreesFinishedSlot :
    working.Released ∧ (working.host.slots.get 0).state = .queued ∧ (working.host.slots.get 3).state = .free ∧
      ((served.modSlot 3 fun k => { k with state := .done }).host.slots.get 3).state = .done ∧
      ∃ reason, ((served.modSlot 3 fun k => { k with state := .failed .parked }).host.slots.get 3).state = .failed reason :=
  ⟨rfl, by decide +kernel, by decide +kernel, by decide +kernel, .parked, by decide +kernel⟩

theorem witness_StartResumePageCopy :
    State.reset.Released ∧ State.reset.mode.sched = .stopped ∧
      (served.Released ∧ served.mode.sched ≠ .stopped ∧ served.mode.sched ≠ .drainHold ∧ served.mode.sched ≠ .held ∧
        ∀ ret, served.mode.sched ≠ .drainSwitch ret) ∧
      (inState .drainHold).mode.sched = .drainHold ∧ (inState .held).mode.sched = .held ∧
      (inState (.drainSwitch .run)).Released ∧ (inState (.drainSwitch .run)).mode.sched = .drainSwitch .run :=
  ⟨rfl, rfl, ⟨rfl, by decide +kernel, by decide +kernel, by decide +kernel, fun ret => by cases ret <;> decide +kernel⟩,
    rfl, rfl, rfl, rfl⟩

theorem served_drained : served.DrainComplete := by unfold State.DrainComplete; decide +kernel

theorem reading_not_drained : ¬reading.DrainComplete := by unfold State.DrainComplete; decide +kernel

theorem witness_HoldBeginsDrain :
    (reading.Released ∧ reading.mode.sched = .run ∧ ¬reading.DrainComplete) ∧
      (served.Released ∧ served.mode.sched = .run ∧ served.DrainComplete) ∧
      (inState (.drainSwitch .held)).mode.sched = .drainSwitch .held ∧ State.reset.mode.sched = .stopped ∧
      (inState .init).mode.sched = .init ∧ (inState .drainHold).mode.sched = .drainHold ∧
      (inState .held).mode.sched = .held :=
  ⟨⟨rfl, rfl, reading_not_drained⟩, ⟨rfl, rfl, served_drained⟩, rfl, rfl, rfl, rfl, rfl⟩

/-- The default page with every port enabled, and pages that fail each check in turn at its boundary. -/
theorem witness_SwitchValidationInOrder :
    let d := Page.default
    let owners (p : Page) := p.wheel.toList.take p.wheelLength
    let rel1 (p : Page) := p.openDelay + 1 ≤ p.rowMin
    let rel2 (p : Page) := 4 * p.refreshTime ≤ p.refreshInterval
    let rel3 (p : Page) := ∃ o ∈ owners p, o = .refresh ∨ o = .free
    let named (p : Page) (k : PortId) := Owner.port k ∈ owners p
    let bad1 := { d with openDelay := 8 }
    let bad2 := { d with refreshTime := 17, refreshInterval := 67 }
    let bad3 := { d with wheelLength := 5 }
    let bad4 : Page := { d with wheel := Vector.replicate 16 .free }
    ¬rel1 bad1 ∧ (rel1 bad2 ∧ ¬rel2 bad2) ∧ (rel1 bad3 ∧ rel2 bad3 ∧ ¬rel3 bad3) ∧
      (rel1 bad4 ∧ rel2 bad4 ∧ rel3 bad4 ∧ (served.ports.get 0).enabled = true ∧ ¬named bad4 0 ∧
        ∀ q, q < (0 : PortId) → (served.ports.get q).enabled = true → named bad4 q) ∧
      rel1 d ∧ rel2 d ∧ rel3 d ∧ ∀ p, (served.ports.get p).enabled = true → named d p := by
  decide +kernel

theorem witness_SwitchBeginsDrainOrFlips :
    let edit (s : State) := s.mode.pages.get (s.mode.runSelect + 1)
    let invalid := { served with mode := { served.mode with
      pages := put served.mode.pages 1 { Page.default with openDelay := 8 } } }
    (invalid.Released ∧ invalid.mode.sched = .run ∧ invalid.validationDetail (edit invalid) ≠ 0) ∧
      (served.mode.sched = .run ∧ served.validationDetail (edit served) = 0) ∧
      ((served.setSched .held).mode.sched = .held ∧ (served.setSched .held).validationDetail (edit served) = 0) ∧
      (State.reset.mode.sched = .stopped ∧ State.reset.validationDetail (edit State.reset) = 0) ∧
      ((refilling State.reset).Released ∧ (refilling State.reset).decided = true ∧
        (refilling State.reset).mode.sched = .stopped ∧
        (refilling State.reset).validationDetail (edit (refilling State.reset)) = 0) ∧
      (inState .init).mode.sched = .init ∧ (inState .drainHold).mode.sched = .drainHold ∧
      ∃ ret, (inState (.drainSwitch .run)).mode.sched = .drainSwitch ret :=
  ⟨⟨rfl, rfl, by decide +kernel⟩, ⟨rfl, by decide +kernel⟩, ⟨rfl, by decide +kernel⟩, ⟨rfl, by decide +kernel⟩,
    ⟨rfl, rfl, rfl, by decide +kernel⟩, rfl, rfl, .run, rfl⟩

theorem witness_SoftResetInStoppedOrInit :
    (refilling State.reset).Released ∧ (refilling State.reset).mode.sched = .stopped ∧ State.reset.IdleStatesEmpty ∧
      (inState .init).mode.sched = .init ∧ (inState .init).IdleStatesEmpty :=
  ⟨rfl, rfl, fun _ => by decide +kernel, rfl, fun _ => by decide +kernel⟩

theorem witness_SoftResetFlushesToHeld :
    (beaten working).Released ∧ working.mode.sched ≠ .stopped ∧ working.mode.sched ≠ .init :=
  ⟨rfl, by decide +kernel, by decide +kernel⟩

theorem witness_DrainCompleteHolds :
    (inState .drainHold).Released ∧ (inState .drainHold).mode.sched = .drainHold ∧
      (inState .drainHold).DrainComplete ∧ served.mode.sched ≠ .drainHold ∧ ¬reading.DrainComplete :=
  ⟨rfl, rfl, by unfold State.DrainComplete; decide +kernel, by decide +kernel, reading_not_drained⟩

/-- A wrap handed, with the elapsed count short of the new interval, and at it with debts at 0, 7 and 8; a wrap handed with
no switch pending, and with the drain not complete; no wrap. -/
theorem witness_FlipChangesPages :
    let s := wrapped (inState (.drainSwitch .run))
    (s.Released ∧ s.mode.sched = .drainSwitch .run ∧ s.arbiter.wrapHanded = true ∧ s.DrainComplete ∧
      s.refresh.elapsed < (s.mode.pages.get (s.mode.runSelect + 1)).refreshInterval) ∧
    (let s := expiring (owing (owing s 1 7 0) 2 8 128)
     s.Released ∧ s.mode.sched = .drainSwitch .run ∧ s.arbiter.wrapHanded = true ∧ s.DrainComplete ∧
       (s.mode.pages.get (s.mode.runSelect + 1)).refreshInterval ≤ s.refresh.elapsed ∧ s.AccountsInRange ∧
       s.PointersNeedRefresh) ∧
    ((wrapped served).arbiter.wrapHanded = true ∧ ∀ ret, (wrapped served).mode.sched ≠ .drainSwitch ret) ∧
    (let s := wrapped (reading.setSched (.drainSwitch .held))
     s.arbiter.wrapHanded = true ∧ ¬s.DrainComplete) ∧
    served.arbiter.wrapHanded = false :=
  ⟨⟨rfl, rfl, rfl, by unfold State.DrainComplete; decide +kernel, by decide +kernel⟩,
   ⟨rfl, rfl, rfl, by unfold State.DrainComplete; decide +kernel, by decide +kernel,
    by unfold State.AccountsInRange; decide +kernel, by unfold State.PointersNeedRefresh; decide +kernel⟩,
   ⟨rfl, fun ret => by cases ret <;> decide +kernel⟩, ⟨rfl, by unfold State.DrainComplete; decide +kernel⟩, rfl⟩

theorem witness_TableWritePageWritesOneField :
    (let s := staged (inState (.drainSwitch .run)) 2 0 1 0 0
     s.Released ∧ s.host.tableSelect = 2 ∧ s.mode.sched = .drainSwitch .run) ∧
    (let s := staged served 3 0 1 0 0
     s.host.tableSelect = 3 ∧ ∀ ret, s.mode.sched ≠ .drainSwitch ret) ∧
    (let s := staged served 2 30 0 0 0
     s.host.tableSelect = 2 ∧ ¬FieldTakes s.host.tableIndex.toNat (s.host.stage.get 0).toNat) ∧
    (let s := staged served 2 29 6 0 0
     s.host.tableSelect = 2 ∧ FieldTakes s.host.tableIndex.toNat (s.host.stage.get 0).toNat) :=
  ⟨⟨rfl, rfl, rfl⟩, ⟨rfl, fun ret => by cases ret <;> decide +kernel⟩, ⟨rfl, by unfold FieldTakes; decide +kernel⟩,
    ⟨rfl, by unfold FieldTakes; decide +kernel⟩⟩

theorem rangesOf {s : State}
    (h : ∀ i, 1 ≤ (s.regions.get i).groupCount ∧ (s.regions.get i).firstGroup + (s.regions.get i).groupCount ≤ 128) :
    s.RegionsInRange := h

/-- A class code of 3; a range that meets region 0 in its last group; the disabling of an entry in use; a free range. -/
theorem witness_TableWriteRegionChecksThenReplaces :
    (let s := staged served 0 1 0x017F 0 0x800D
     s.Released ∧ s.RegionsInRange ∧ s.host.tableSelect = 0 ∧ ¬(stagedRegion s.host.stage).clsCode ≤ 2) ∧
    (let s := staged served 0 15 0x017F 0 0x8000
     let g := stagedRegion s.host.stage
     s.Released ∧ s.RegionsInRange ∧ s.host.tableSelect = 0 ∧ s.host.tableIndex.toNat = (15 : Fin 16).val ∧
       (g.firstGroup ≤ 127 ∧ 1 ≤ g.groupCount ∧ g.groupCount ≤ 128 ∧ g.firstGroup + g.groupCount ≤ 128) ∧
       g.clsCode = RefreshClass.retain.code ∧ g.enabled = true ∧
       ∃ j, j ≠ (15 : Fin 16) ∧ ∃ n, g.firstGroup ≤ n ∧ n < g.firstGroup + g.groupCount ∧
         (s.regions.get j).covers g.bank n = true) ∧
    (let s := staged reading 0 0 0x8000 0x1F1F 0x0000
     let g := stagedRegion s.host.stage
     s.Released ∧ s.RegionsInRange ∧ s.host.tableSelect = 0 ∧ s.host.tableIndex.toNat = (0 : Fin 16).val ∧
       (g.firstGroup ≤ 127 ∧ 1 ≤ g.groupCount ∧ g.groupCount ≤ 128 ∧ g.firstGroup + g.groupCount ≤ 128) ∧
       g.clsCode = RefreshClass.retain.code ∧ g.enabled = false ∧ (s.regions.get 0).refCount ≠ 0) ∧
    (let s := staged served 0 1 0x017F 0 0x8009
     let g := stagedRegion s.host.stage
     s.Released ∧ s.RegionsInRange ∧ s.host.tableSelect = 0 ∧ s.host.tableIndex.toNat = (1 : Fin 16).val ∧
       (g.firstGroup ≤ 127 ∧ 1 ≤ g.groupCount ∧ g.groupCount ≤ 128 ∧ g.firstGroup + g.groupCount ≤ 128) ∧
       g.clsCode = RefreshClass.off.code ∧ (s.regions.get 1).refCount = 0 ∧
       (∀ j, j ≠ (1 : Fin 16) → (s.regions.get j).enabled = true → (s.regions.get j).bank ≠ g.bank) ∧
       ∀ b, (s.account b).debt ≤ 0) :=
  ⟨⟨rfl, rangesOf (by decide +kernel), rfl, by decide +kernel⟩,
   ⟨rfl, rangesOf (by decide +kernel), rfl, rfl, by decide +kernel, by decide +kernel, by decide +kernel, 0,
    by decide, 127, by decide +kernel, by decide +kernel, by decide +kernel⟩,
   ⟨rfl, rangesOf (by decide +kernel), rfl, rfl, by decide +kernel, by decide +kernel, by decide +kernel,
    by decide +kernel⟩,
   ⟨rfl, rangesOf (by decide +kernel), rfl, rfl, by decide +kernel, by decide +kernel, by decide +kernel,
    by decide +kernel, by decide +kernel⟩⟩

/-- HELD, with entry 0 valid for bank 0, row 5, spare 3. -/
def remapped : State :=
  { inState .held with
    remap := put State.reset.remap 0 { valid := true, bank := 0, faultyRow := 5, spare := 3 } }

/-- Outside the states that take edits; index 8; the same row again; the same spare again; a row held open, staged and
current; a removal; an add that passes. -/
theorem witness_TableWriteRemapChecksThenStores :
    (let s := staged served 1 0 5 3 0x8000
     s.Released ∧ s.host.tableSelect = 1 ∧ s.mode.sched ≠ .stopped ∧ s.mode.sched ≠ .held) ∧
    (let s := staged remapped 1 8 5 3 0x8000
     s.Released ∧ s.host.tableSelect = 1 ∧ s.mode.sched = .held ∧ ¬s.host.tableIndex.toNat ≤ 7) ∧
    (let s := staged remapped 1 7 5 4 0x8000
     let g := stagedRemap s.host.stage
     s.host.tableIndex.toNat = (7 : Fin 8).val ∧ g.faultyRow = (5 : Fin 2048).val ∧ g.valid = true ∧
       (s.remap.get 7).valid = false ∧
       ∃ j, j ≠ (7 : Fin 8) ∧ (s.remap.get j).valid = true ∧ (s.remap.get j).bank = g.bank ∧ (s.remap.get j).faultyRow = 5) ∧
    (let s := staged remapped 1 7 2047 3 0x8000
     let g := stagedRemap s.host.stage
     s.host.tableIndex.toNat = (7 : Fin 8).val ∧ g.faultyRow = (2047 : Fin 2048).val ∧ g.valid = true ∧
       (s.remap.get 7).valid = false ∧
       (¬∃ j, j ≠ (7 : Fin 8) ∧ (s.remap.get j).valid = true ∧ (s.remap.get j).bank = g.bank ∧
         (s.remap.get j).faultyRow = 2047) ∧
       ∃ j, j ≠ (7 : Fin 8) ∧ (s.remap.get j).valid = true ∧ (s.remap.get j).bank = g.bank ∧ (s.remap.get j).spare = g.spare) ∧
    (let s := staged (reading.setSched .held) 1 0 5 3 0x8000
     let g := stagedRemap s.host.stage
     s.host.tableIndex.toNat = (0 : Fin 8).val ∧ g.faultyRow = (5 : Fin 2048).val ∧ g.valid = true ∧
       (s.remap.get 0).valid = false ∧ (∀ j, (s.remap.get j).valid = false) ∧
       (s.banks.get g.bank).openRow? = some 5) ∧
    (let s := staged (remapped.modBank 0 fun _ => openOnFive 0) 1 0 5 3 0
     let g := stagedRemap s.host.stage
     s.host.tableIndex.toNat = (0 : Fin 8).val ∧ g.faultyRow = (5 : Fin 2048).val ∧ g.valid = false ∧
       (s.remap.get 0).valid = true ∧ (s.banks.get (s.remap.get 0).bank).openRow? = some (s.remap.get 0).faultyRow) ∧
    (let s := staged remapped 1 0 5 3 0
     let g := stagedRemap s.host.stage
     s.host.tableIndex.toNat = (0 : Fin 8).val ∧ g.faultyRow = (5 : Fin 2048).val ∧ g.valid = false ∧
       (s.remap.get 0).valid = true ∧ (s.banks.get (s.remap.get 0).bank).openRow? ≠ some (s.remap.get 0).faultyRow) ∧
    let s := staged State.reset 1 7 2047 0x010F 0x8000
    let g := stagedRemap s.host.stage
    s.Released ∧ s.mode.sched = .stopped ∧ s.host.tableIndex.toNat = (7 : Fin 8).val ∧
      g.faultyRow = (2047 : Fin 2048).val ∧ (∀ j, (s.remap.get j).valid = false) ∧
      (s.banks.get g.bank).openRow? ≠ some 2047 :=
  ⟨⟨rfl, rfl, by decide +kernel, by decide +kernel⟩, ⟨rfl, rfl, rfl, by decide +kernel⟩, by decide +kernel,
   by decide +kernel, by decide +kernel, by decide +kernel, by decide +kernel,
   ⟨rfl, rfl, rfl, by decide +kernel, by decide +kernel, by decide +kernel⟩⟩

/-- At the first group and at the spare group. -/
theorem witness_RetirementPassesUnretainedGroups :
    ((owing served 0 1 0).account 0).pointer ≤ 128 ∧ ((owing served 0 1 128).account 0).pointer ≤ 128 := by
  decide +kernel

theorem witness_PortDisableFlushes :
    ((beaten reading).Released ∧ (beaten reading).decided = true ∧ reading.decided = false) ∧
      ((beaten reading).ports.get 0).state = .enabled ∧ ((beaten reading).ports.get 3).state ≠ .enabled :=
  ⟨⟨rfl, rfl, rfl⟩, by decide +kernel, by decide +kernel⟩

theorem witness_PrstSilencesPort :
    (reading.ports.get 0).prst = false ∧ ((run (.prstAssert 0) reading).ports.get 0).prst = true := by
  decide +kernel

/-- The last burst of the last row that region 0 covers. -/
theorem witness_RequestFiled :
    let r : RequestFields := { kind := .write, tag := 15, bank := 0, row := 2047, firstBurst := 63, length := 1 }
    (served.Released ∧ (now [0x01, 0x1F, 0xFF, 0x07, 63]).metPrst = false ∧ (served.ports.get 0).state = .enabled ∧
      ((served.atArrival (now [0x01, 0x1F, 0xFF, 0x07, 63])).ports.get 0).messageTaken = false) ∧
      parseFrame (now [0x01, 0x1F, 0xFF, 0x07, 63]).bytes = .request r ∧ served.AdmitsClients ∧
      (∀ q ∈ (served.ports.get 0).queue, q.tag ≠ r.tag) ∧ (served.ports.get 0).queue.length < 8 ∧
      r.firstBurst.val + r.length ≤ 64 ∧ served.RegionsDisjoint ∧
      (served.regions.get 0).covers r.bank (r.row.val / 16) = true ∧ (served.regions.get 0).cls ≠ .off ∧
      (served.regions.get 0).permits (.port 0) r.kind = true :=
  ⟨⟨rfl, rfl, by decide +kernel, by decide +kernel⟩, by decide, .inl rfl, by decide +kernel, by decide +kernel, by decide,
    disjoint_of_first (by decide +kernel), by decide +kernel, by decide +kernel, by decide +kernel⟩

/-- Eight records, tags 0 to 7. -/
def fullQueue : List Record := [0, 1, 2, 3, 4, 5, 6, 7].map fun t => { readRecord .queued 0 with tag := t }

/-- One REQUEST for each check: tag 1, bank 0, row 5, burst 0 and length 4, or burst 63 and length 2 for ROW_SPAN. -/
theorem witness_RequestRefusedInOrder :
    let r : RequestFields := { kind := .read, tag := 1, bank := 0, row := 5, firstBurst := 0, length := 4 }
    let far : RequestFields := { r with tag := 8 }
    let wide : RequestFields := { r with firstBurst := 63, length := 2 }
    parseFrame [0x01, 0x01, 5, 0x30, 0] = .request r ∧ parseFrame [0x01, 0x08, 5, 0x30, 0] = .request far ∧
      parseFrame [0x01, 0x01, 5, 0x10, 63] = .request wide ∧
      (served.Released ∧ (now [0x01, 0x01, 5, 0x30, 0]).metPrst = false ∧ ((served.atArrival (now [0x01, 0x01, 5, 0x30, 0])).ports.get 0).messageTaken = false ∧
        (served.ports.get 3).state = .disabled) ∧
      ((served.ports.get 0).state = .enabled ∧ (served.setSched .init).mode.sched = .init) ∧
      (served.setSched .held).HoldsClients ∧
      (reading.AdmitsClients ∧ ¬∀ q ∈ (reading.ports.get 0).queue, q.tag ≠ r.tag) ∧
      (let s := withQueue served fullQueue .powerOn
       s.AdmitsClients ∧ (∀ q ∈ (s.ports.get 0).queue, q.tag ≠ far.tag) ∧ ¬(s.ports.get 0).queue.length < 8) ∧
      (served.AdmitsClients ∧ (∀ q ∈ (served.ports.get 0).queue, q.tag ≠ wide.tag) ∧
        ¬wide.firstBurst.val + wide.length ≤ 64) ∧
      (∀ i, ((served.modRegion 0 fun _ => .powerOn).regions.get i).covers r.bank (r.row.val / 16) = false) ∧
      (let s := served.modRegion 0 fun _ => wholeBank 0 .off
       s.RegionsDisjoint ∧ (s.regions.get 0).covers r.bank (r.row.val / 16) = true ∧ (s.regions.get 0).cls = .off) ∧
      let s := served.modRegion 0 fun e => { e with readPermit := 0x1E }
      s.RegionsDisjoint ∧ (s.regions.get 0).covers r.bank (r.row.val / 16) = true ∧ (s.regions.get 0).cls ≠ .off ∧
        (s.regions.get 0).permits (.port 0) r.kind = false :=
  ⟨by decide, by decide, by decide, ⟨rfl, rfl, by decide +kernel, by decide +kernel⟩, ⟨by decide +kernel, rfl⟩,
   .inr (.inr rfl),
   ⟨.inl rfl, by decide +kernel⟩, ⟨.inl rfl, by decide +kernel, by decide +kernel⟩,
   ⟨.inl rfl, by decide +kernel, by decide⟩, by decide +kernel,
   ⟨disjoint_of_first (by decide +kernel), by decide +kernel, by decide +kernel⟩,
   ⟨disjoint_of_first (by decide +kernel), by decide +kernel, by decide +kernel, by decide +kernel⟩⟩

theorem witness_CancelFinishesItsRecord :
    let r := readRecord (.active 0) 1
    parseFrame (now [0x02, 0x01]).bytes = .cancel 1 ∧
      (reading.Released ∧ (now [0x02, 0x01]).metPrst = false ∧ ((reading.atArrival (now [0x02, 0x01])).ports.get 0).messageTaken = false ∧
        (reading.ports.get 0).state = .enabled ∧
        (reading.ports.get 0).queue = [] ++ r :: [] ∧ r.tag = 1) ∧
      ((served.ports.get 0).state = .enabled ∧ ∀ q ∈ (served.ports.get 0).queue, q.tag ≠ 1) ∧
      (served.ports.get 3).state = .disabled :=
  ⟨by decide, ⟨rfl, rfl, by decide +kernel, by decide +kernel, by decide +kernel, rfl⟩, ⟨by decide +kernel, by decide +kernel⟩,
    by decide +kernel⟩

/-- A first and a second message of a window; a decision taken with the next window begun and not; a port IN_RESET. -/
theorem witness_FrameDiscardedOrIgnored :
    let second := served.modPort 0 fun k => { k with messageTaken := true }
    let decided := run (.windowDecision 0xF none) second
    served.Released ∧ ((now []).metPrst = false ∧ (now []).inNextWindow = false) ∧
      ((second.ports.get 0).state ≠ .inReset ∧ ((second.atArrival (now [0xFF])).ports.get 0).messageTaken = true) ∧
      (decided.Released ∧ decided.decided = true ∧ ((decided.atArrival (now [0xFF])).ports.get 0).messageTaken = true ∧
        ((decided.atArrival { now [0xFF] with inNextWindow := true }).ports.get 0).messageTaken = false) ∧
      (((served.atArrival (now [0xFF])).ports.get 0).messageTaken = false ∧ served.decided = false ∧
        parseFrame (now [0xFF]).bytes = .unknown 0xFF ∧ parseFrame (now []).bytes = .short 0) ∧
      ((run (.prstAssert 0) served).ports.get 0).state = .inReset :=
  ⟨rfl, by decide, by decide +kernel,
    ⟨by unfold State.Released; decide +kernel, by decide +kernel, by decide +kernel, by decide +kernel⟩, by decide +kernel,
    by decide +kernel⟩

theorem witness_InboundFramesRoundTrip :
    let r : RequestFields := { kind := .write, tag := 15, bank := 3, row := 2047, firstBurst := 63, length := 16 }
    (1 ≤ r.length ∧ r.length ≤ 16) ∧ (0x80#8 &&& 0x7F#8 = 0#8 ∧ 0x08#8 &&& 0xF7#8 = 0#8 ∧ 0xC0#8 &&& 0x3F#8 = 0#8) ∧
      0xF0#8 &&& 0x0F#8 = 0#8 ∧ (0x00#8 ≠ 0x01#8 ∧ 0x03#8 ≠ 0x02#8) ∧ ([1, 2, 3] : List Byte).length ≤ 3 := by
  decide

/-! ### Windows -/

/-- Port 0's READ is QUEUED and its bank CLOSED. -/
def waiting : State := withQueue served [readRecord .queued 0] .powerOn

/-- INIT with the conditioning in state `c`. -/
def conditioning (c : Conditioning) : State :=
  { inState .init with refresh := { State.reset.refresh with conditioning := c } }

/-- The choice of a window with every READY level high. -/
def chosen (s : State) : Option (Requester × Action) := (s.sampleReady 0xF).choose

/-- One window for each kind of action, and an idle one. -/
theorem witness_WindowCarriesItsDecision :
    served.Released ∧ chosen State.reset = none ∧ chosen (conditioning .clearing) = some (.port 0, .closeAll) ∧
      chosen (conditioning (.conditioning 31)) = some (.port 0, .condition 3) ∧
      chosen (owing served 3 8 128) = some (.port 0, .refresh 3) ∧
      chosen (served.modBank 2 fun _ => { openOnFive 0 with closePending := true }) = some (.port 0, .close 2) ∧
      chosen waiting = some (.port 0, .openFor 0 5) ∧
      chosen reading = some (.port 0, .burst (.port 0) (readRecord (.active 0) 1)) ∧
      chosen hostWriting = some (.host, .burst .host slotRecord) :=
  ⟨rfl, by decide +kernel, by decide +kernel, by decide +kernel, by decide +kernel, by decide +kernel, by decide +kernel,
    by decide +kernel, by decide +kernel⟩

theorem drainedBy_of {s : State} (h : s.DrainComplete) (c : Option (Requester × Action)) : s.DrainedBy c :=
  ⟨h.1, fun b => .inl (h.2 b)⟩

/-- The last window of the wheel with a switch pending and nothing to drain, before the new interval, and at it with debts of
0, 7 and 8; and a window that is not the last. -/
theorem witness_WindowCarriesItsDecision_flip :
    let s := inState (.drainSwitch .run)
    let last := { s with arbiter := { s.arbiter with wheelPosition := 7 } }
    let late := expiring (owing (owing last 1 7 0) 2 8 128)
    (last.Released ∧ last.PagesSound ∧ last.ConditioningSound ∧ last.mode.sched = .drainSwitch .run ∧ last.FlipsIn 0xF ∧
      last.refresh.elapsed < (last.mode.pages.get (last.mode.runSelect + 1)).refreshInterval) ∧
    (late.PagesSound ∧ late.ConditioningSound ∧ late.mode.sched = .drainSwitch .run ∧ late.FlipsIn 0xF ∧
      (late.mode.pages.get (late.mode.runSelect + 1)).refreshInterval ≤ late.refresh.elapsed ∧ late.AccountsInRange ∧
      late.PointersNeedRefresh) ∧
    (s.PagesSound ∧ s.ConditioningSound ∧ ¬s.FlipsIn 0xF) := by
  intro s last late
  exact ⟨⟨rfl, pagesSound_of (by decide +kernel) (by decide +kernel),
    conditioningSound_of (by decide +kernel) (by decide +kernel), rfl,
    ⟨⟨_, rfl⟩, by decide +kernel, drainedBy_of (by unfold State.DrainComplete; decide +kernel) _⟩, by decide +kernel⟩,
    ⟨pagesSound_of (by decide +kernel) (by decide +kernel), conditioningSound_of (by decide +kernel) (by decide +kernel), rfl,
    ⟨⟨_, rfl⟩, by decide +kernel, drainedBy_of (by unfold State.DrainComplete; decide +kernel) _⟩, by decide +kernel,
    by unfold State.AccountsInRange; decide +kernel, by unfold State.PointersNeedRefresh; decide +kernel⟩,
    pagesSound_of (by decide +kernel) (by decide +kernel),
    conditioningSound_of (by decide +kernel) (by decide +kernel), noFlip_of (by decide +kernel)⟩

theorem witness_ChosenActionIsAllowed :
    (let s := reading.sampleReady 0xF
     s.PagesSound ∧ s.choose = some (.port 0, .burst (.port 0) (readRecord (.active 0) 1))) ∧
    (waiting.PagesSound ∧ waiting.choose = some (.port 0, .openFor 0 5)) :=
  ⟨⟨pagesSound_of (by decide +kernel) (by decide +kernel), by decide +kernel⟩,
    pagesSound_of (by decide +kernel) (by decide +kernel), by decide +kernel⟩

/-- Every scheduler state, and in INIT each state of the conditioning with its bank within reach and out of it; running, a
window with work of each place in the order at its head, and an idle one. -/
theorem witness_DecisionsFollowTheOrder :
    State.reset.mode.sched = .stopped ∧
    ((conditioning .clearing).mode.sched = .init ∧ (conditioning .clearing).refresh.conditioning = .clearing) ∧
    ((conditioning (.conditioning 31)).refresh.conditioning = .conditioning 31 ∧ (3 : BankId).val = 31 % 4 ∧
      (conditioning (.conditioning 31)).CanOpen 3 ∧
      ¬((conditioning (.conditioning 31)).modBank 3 fun k => { k with state := .closing 2 }).CanOpen 3) ∧
    (conditioning .trailing).refresh.conditioning = .trailing ∧
    (served.mode.sched.running = true ∧ chosen { served with credit := { served.credit with count := 1 } } = none) ∧
    chosen served = some (.port 0, .refresh 0) ∧
    chosen (owing ((owing served 1 8 0).modBank 1 fun k => { k with state := .closing 2 }) 3 8 128) =
      some (.port 0, .refresh 3) ∧
    chosen (served.modBank 2 fun _ => { openOnFive 0 with closePending := true }) = some (.port 0, .close 2) ∧
    (let first := { readRecord .queued 0 with tag := 2, row := 9 }
     let r := readRecord (.active 0) 1
     chosen (withQueue served [first, r] (openOnFive 1)) = some (.port 0, .burst (.port 0) r)) ∧
    (let free := { served with arbiter := { served.arbiter with wheelPosition := 6 } }
     chosen (owing (owing free 1 6 0) 2 7 0) = some (.port 0, .refresh 2) ∧
     (let s := withQueue free [{ readRecord .queued 0 with age := 256 }] .powerOn
      chosen s = some (.port 0, .openFor 0 5)) ∧
     chosen ((free.modBank 2 fun _ => openOnFive 0).setSched .drainHold) = some (.port 0, .close 2) ∧
     (let s := { hostWriting with arbiter := { free.arbiter with pointer := .port 1 } }
      chosen s = some (.host, .burst .host slotRecord))) := by
  unfold State.CanOpen
  decide +kernel

/-- A choice that is no burst. -/
theorem noBurst_of {s : State} {x : Requester × Action} (h : chosen s = some x) (hx : ∀ who r, x.2 ≠ .burst who r) :
    ∀ ptr who r, (s.sampleReady 0xF).choose ≠ some (ptr, .burst who r) := by
  intro ptr who r hc
  rw [chosen, hc, Option.some.injEq] at h
  exact hx who r (by rw [← h])

theorem noBurst_of_none {s : State} (h : chosen s = none) :
    ∀ ptr who r, (s.sampleReady 0xF).choose ≠ some (ptr, .burst who r) := by
  intro ptr who r hc
  rw [chosen, hc] at h
  cases h

/-- The wheel's last window. -/
def atLast (s : State) : State := { s with arbiter := { s.arbiter with wheelPosition := 7 } }

/-- An OPEN; the last window of conditioning; the CLOSE that completes a drain; a REFRESH before groups of class
OFF; the wheel's last window in DRAIN_SWITCH, with a flip and, an ACTIVE record standing, without one. -/
theorem witness_WindowWithoutBurstAtQueues :
    (waiting.Released ∧ waiting.PagesSound ∧ waiting.ConditioningSound ∧ waiting.NoAbort 0xF ∧ waiting.NoExpiry ∧
      ¬waiting.FlipsIn 0xF ∧ (∀ ptr who r, (waiting.sampleReady 0xF).choose ≠ some (ptr, .burst who r)) ∧
      waiting.refresh.conditioning ≠ .trailing ∧ waiting.mode.sched ≠ .drainHold) ∧
    (let s := (conditioning .trailing).modBank 3 fun k => { k with state := .refreshing 0 }
     s.PagesSound ∧ s.ConditioningSound ∧ s.NoAbort 0xF ∧ s.NoExpiry ∧ ¬s.FlipsIn 0xF ∧
       (∀ ptr who r, (s.sampleReady 0xF).choose ≠ some (ptr, .burst who r)) ∧ s.refresh.conditioning = .trailing ∧
       (s.banks.get 3).state = .refreshing 0) ∧
    (let s := (served.modBank 2 fun _ => openOnFive 0).setSched .drainHold
     s.PagesSound ∧ s.ConditioningSound ∧ s.NoAbort 0xF ∧ s.NoExpiry ∧ ¬s.FlipsIn 0xF ∧
       (∀ ptr who r, (s.sampleReady 0xF).choose ≠ some (ptr, .burst who r)) ∧ s.mode.sched = .drainHold ∧
       s.DrainedBy (chosen s)) ∧
    (let s := owing ((served.modRegion 0 fun _ => wholeBank 0 .off)) 0 8 128
     s.PagesSound ∧ s.ConditioningSound ∧ s.NoAbort 0xF ∧ s.NoExpiry ∧ ¬s.FlipsIn 0xF ∧
       (∀ ptr who r, (s.sampleReady 0xF).choose ≠ some (ptr, .burst who r)) ∧
       chosen s = some (.port 0, .refresh 0)) ∧
    (let s := expiring (atLast (inState (.drainSwitch .run)))
     s.PagesSound ∧ s.ConditioningSound ∧ s.NoAbort 0xF ∧ s.FlipsIn 0xF ∧
       (∀ ptr who r, (s.sampleReady 0xF).choose ≠ some (ptr, .burst who r))) ∧
    let s := atLast (reading.setSched (.drainSwitch .held))
    s.PagesSound ∧ s.ConditioningSound ∧ s.NoAbort 0 ∧ s.NoExpiry ∧ ¬s.FlipsIn 0 ∧
      (∀ ptr who r, (s.sampleReady 0).choose ≠ some (ptr, .burst who r)) := by
  have h1 : chosen waiting = some (.port 0, .openFor 0 5) := by decide +kernel
  have h2 : chosen ((conditioning .trailing).modBank 3 fun k => { k with state := .refreshing 0 }) = none := by
    decide +kernel
  have h3 : chosen ((served.modBank 2 fun _ => openOnFive 0).setSched .drainHold) = some (.port 0, .close 2) := by
    decide +kernel
  have h4 : chosen (owing ((served.modRegion 0 fun _ => wholeBank 0 .off)) 0 8 128) = some (.port 0, .refresh 0) := by
    decide +kernel
  have h5 : chosen (expiring (atLast (inState (.drainSwitch .run)))) = some (.port 0, .refresh 0) := by decide +kernel
  refine ⟨⟨rfl, pagesSound_of (by decide +kernel) (by decide +kernel),
      conditioningSound_of (by decide +kernel) (by decide +kernel), noAbort_of (by decide +kernel), fun _ => by decide +kernel,
      noFlip_of (by decide +kernel), noBurst_of h1 (by simp), by decide +kernel, by decide +kernel⟩,
    ⟨pagesSound_of (by decide +kernel) (by decide +kernel), ⟨by decide +kernel, fun n h => by cases h⟩,
      noAbort_of (by decide +kernel), (fun h => by cases h), noFlip_of (by decide +kernel), noBurst_of_none h2,
      by decide +kernel, by decide +kernel⟩,
    ⟨pagesSound_of (by decide +kernel) (by decide +kernel), conditioningSound_of (by decide +kernel) (by decide +kernel),
      noAbort_of (by decide +kernel), fun _ => by decide +kernel, noFlip_of (by decide +kernel), noBurst_of h3 (by simp),
      rfl, ?_⟩,
    ⟨pagesSound_of (by decide +kernel) (by decide +kernel), conditioningSound_of (by decide +kernel) (by decide +kernel),
      noAbort_of (by decide +kernel), fun _ => by decide +kernel, noFlip_of (by decide +kernel), noBurst_of h4 (by simp), h4⟩,
    ⟨pagesSound_of (by decide +kernel) (by decide +kernel), conditioningSound_of (by decide +kernel) (by decide +kernel),
      noAbort_of (by decide +kernel),
      ⟨⟨_, rfl⟩, by decide +kernel, drainedBy_of (by unfold State.DrainComplete; decide +kernel) _⟩, noBurst_of h5 (by simp)⟩,
    pagesSound_of (by decide +kernel) (by decide +kernel), conditioningSound_of (by decide +kernel) (by decide +kernel),
      ?_, fun _ => by decide +kernel, fun hf => ?_, ?_⟩
  case refine_2 =>
    intro p _ r hr n hn
    have hq : ∀ q, ∀ x ∈ ((atLast (reading.setSched (.drainSwitch .held))).ports.get q).queue, x.state = .active 0 := by
      decide +kernel
    rw [hq p r hr] at hn
    cases hn
    decide +kernel
  case refine_3 =>
    have h := hf.2.2.1 (readRecord (.active 0) 1) (by decide +kernel)
    simp [readRecord] at h
  case refine_4 =>
    intro ptr who r hc
    have h6 : ((atLast (reading.setSched (.drainSwitch .held))).sampleReady 0).choose =
        some (.port 0, .refresh 1) := by decide +kernel
    rw [h6] at hc
    cases hc
  rw [h3]
  refine ⟨by decide +kernel, fun b => ?_⟩
  by_cases hb : b = 2
  · exact .inr ⟨_, by rw [hb]⟩
  · exact .inl (by revert hb; revert b; decide +kernel)

/-- An idle window with the refill and the expiry due, and a bank at the end of its timers. -/
def idling : State :=
  { expiring (served.modBank 3 fun k => { k with state := .opening 5 5 0, rowMin := some 0, writeRecovery := some 1 })
    with credit := { count := 1, refillTimer := 10, refillDue := true } }

theorem idling_chooses_none : (idling.sampleReady 0xF).choose = none := by decide +kernel

/-- An idle window with the refill and the expiry due; a window with a burst, which takes no credit; one in STOPPED; the last
of conditioning. -/
theorem witness_WindowPassesAtTimers :
    idling.Released ∧ (∀ ptr a, (idling.sampleReady 0xF).choose = some (ptr, a) → ¬a.Names 3) ∧
      ((idling.banks.get 3).state = .opening 5 5 0 ∧ (idling.banks.get 3).rowMin = some 0 ∧
        (idling.banks.get 3).writeRecovery = some (0 + 1) ∧ (idling.banks.get 2).state = .closed) ∧
      ¬idling.FlipsIn 0xF ∧ idling.PagesSound ∧ idling.ConditioningSound ∧ idling.credit.refillDue = true ∧
      (∀ ptr a, (idling.sampleReady 0xF).choose = some (ptr, a) → ¬a.TakesCredit) ∧ idling.mode.sched.running = true ∧
      idling.runPage.refreshInterval ≤ idling.refresh.elapsed ∧
      (served.credit.refillDue = false ∧ State.reset.mode.sched.running = false ∧
        State.reset.refresh.conditioning ≠ .trailing) ∧
      (reading.Released ∧ reading.PagesSound ∧ reading.ConditioningSound ∧ ¬reading.FlipsIn 0xF ∧
        (reading.sampleReady 0xF).choose = some (.port 0, .burst (.port 0) (readRecord (.active 0) 1)) ∧
        ∀ ptr a, (reading.sampleReady 0xF).choose = some (ptr, a) → ¬a.TakesCredit) ∧
      let s := (conditioning .trailing).modBank 3 fun k => { k with state := .refreshing 0 }
      s.Released ∧ ¬s.FlipsIn 0xF ∧ s.PagesSound ∧ s.ConditioningSound ∧ s.mode.sched.running = false ∧
        s.refresh.conditioning = .trailing ∧ (s.banks.get 3).state = .refreshing 0 :=
  ⟨rfl, (fun ptr a h => by rw [idling_chooses_none] at h; cases h), by decide +kernel, noFlip_of (by decide +kernel),
    pagesSound_of (by decide +kernel) (by decide +kernel), conditioningSound_of (by decide +kernel) (by decide +kernel),
    by decide +kernel, (fun ptr a h => by rw [idling_chooses_none] at h; cases h), by decide +kernel, by decide +kernel,
    by decide +kernel,
    ⟨rfl, reading_pages, conditioningSound_of (by decide +kernel) (by decide +kernel), noFlip_of (by decide +kernel),
      by decide +kernel, fun ptr a h => by
        have hb : (reading.sampleReady 0xF).choose =
            some (.port 0, .burst (.port 0) (readRecord (.active 0) 1)) := by decide +kernel
        rw [hb] at h
        cases h
        exact fun hc => hc⟩,
    ⟨rfl, noFlip_of (by decide +kernel), pagesSound_of (by decide +kernel) (by decide +kernel),
      ⟨by decide +kernel, fun n h => by cases h⟩, rfl, rfl, rfl⟩⟩

theorem witness_WindowStartsBankOperation :
    (waiting.Released ∧ waiting.PagesSound ∧ waiting.ConditioningSound ∧ waiting.NoExpiry ∧ ¬waiting.FlipsIn 0xF ∧
      (waiting.sampleReady 0xF).choose = some (.port 0, .openFor 0 5)) ∧
    (let s := owing served 3 8 128
     s.PagesSound ∧ s.ConditioningSound ∧ s.NoExpiry ∧ ¬s.FlipsIn 0xF ∧
       (s.sampleReady 0xF).choose = some (.port 0, .refresh 3)) ∧
    (let s := conditioning (.conditioning 31)
     s.PagesSound ∧ s.ConditioningSound ∧ s.NoExpiry ∧ ¬s.FlipsIn 0xF ∧
       (s.sampleReady 0xF).choose = some (.port 0, .condition 3)) ∧
    (let s := served.modBank 2 fun _ => { openOnFive 0 with closePending := true }
     s.PagesSound ∧ s.ConditioningSound ∧ s.NoExpiry ∧ ¬s.FlipsIn 0xF ∧
       (s.sampleReady 0xF).choose = some (.port 0, .close 2)) ∧
    let s := conditioning .clearing
    s.PagesSound ∧ s.ConditioningSound ∧ s.NoExpiry ∧ ¬s.FlipsIn 0xF ∧
      (s.sampleReady 0xF).choose = some (.port 0, .closeAll) :=
  ⟨⟨rfl, pagesSound_of (by decide +kernel) (by decide +kernel), conditioningSound_of (by decide +kernel) (by decide +kernel),
    fun _ => by decide +kernel, noFlip_of (by decide +kernel), by decide +kernel⟩,
   ⟨pagesSound_of (by decide +kernel) (by decide +kernel), conditioningSound_of (by decide +kernel) (by decide +kernel),
    fun _ => by decide +kernel, noFlip_of (by decide +kernel), by decide +kernel⟩,
   ⟨pagesSound_of (by decide +kernel) (by decide +kernel),
    ⟨by decide +kernel, fun n h => by cases h; decide⟩,
    (fun h => by cases h), noFlip_of (by decide +kernel), by decide +kernel⟩,
   ⟨pagesSound_of (by decide +kernel) (by decide +kernel), conditioningSound_of (by decide +kernel) (by decide +kernel),
    fun _ => by decide +kernel, noFlip_of (by decide +kernel), by decide +kernel⟩,
   ⟨pagesSound_of (by decide +kernel) (by decide +kernel),
    ⟨by decide +kernel, fun n h => by cases h⟩,
    (fun h => by cases h), noFlip_of (by decide +kernel), by decide +kernel⟩⟩

/-- A burst that is not the record's last, and the last burst of a WRITE. -/
theorem witness_ClientBurstMoves :
    (reading.Released ∧ reading.PagesSound ∧ reading.ConditioningSound ∧ reading.QueuesSound ∧ reading.dram.wf = true ∧
      reading.NoAbort 0xF ∧ reading.NoExpiry ∧
      (reading.sampleReady 0xF).choose = some (.port 0, .burst (.port 0) (readRecord (.active 0) 1)) ∧
      ¬(readRecord (.active 0) 1).burstsDone + 1 = (readRecord (.active 0) 1).length) ∧
    let r := { readRecord (.active 0) 3 with kind := .write }
    let s := withQueue served [r] (openOnFive 1)
    s.Released ∧ s.PagesSound ∧ s.ConditioningSound ∧ s.QueuesSound ∧ s.dram.wf = true ∧ s.NoAbort 0xF ∧ s.NoExpiry ∧
      (s.sampleReady 0xF).choose = some (.port 0, .burst (.port 0) r) ∧ r.burstsDone + 1 = r.length ∧ r.word = none :=
  ⟨⟨rfl, reading_pages, conditioningSound_of (by decide +kernel) (by decide +kernel), reading_queues, by decide +kernel,
    noAbort_of (by decide +kernel), fun _ => by decide +kernel, by decide +kernel, by decide⟩,
   ⟨rfl, pagesSound_of (by decide +kernel) (by decide +kernel), conditioningSound_of (by decide +kernel) (by decide +kernel),
    queuesSound_of (by decide +kernel) (by decide +kernel), by decide +kernel, noAbort_of (by decide +kernel),
    fun _ => by decide +kernel, by decide +kernel, by decide, rfl⟩⟩

theorem witness_HostBurstCompletesSlot :
    hostWriting.Released ∧ hostWriting.PagesSound ∧ hostWriting.ConditioningSound ∧ hostWriting.dram.wf = true ∧
      hostWriting.NoAbort 0xF ∧ hostWriting.NoExpiry ∧
      (hostWriting.sampleReady 0xF).choose = some (.host, .burst .host slotRecord) ∧
      hostWriting.hostQueue = slotRecord :: [] ∧ slotRecord.origin = .slot 0 ∧ slotRecord.state = .queued ∧
      slotRecord.word = some 2 :=
  ⟨rfl, pagesSound_of (by decide +kernel) (by decide +kernel), conditioningSound_of (by decide +kernel) (by decide +kernel),
    by decide +kernel, noAbort_of (by decide +kernel), fun _ => by decide +kernel, by decide +kernel, rfl, rfl, rfl, rfl⟩

/-! ### Timed happenings -/

/-- Every timer at its last window and with a window left; TRAILING with bank 3 at its last window. -/
theorem witness_TimersRunOut :
    let at3 (st : BankState) := served.modBank 3 fun k => { k with state := st }
    (served.Released ∧ ((at3 (.opening 5 5 0)).banks.get 3).state = .opening 5 5 0 ∧
      (∀ row phys, ((at3 (.opening 5 5 1)).banks.get 3).state ≠ .opening row phys 0) ∧
      ((at3 (.closing 0)).banks.get 3).state = .closing 0 ∧ ((at3 (.closing 1)).banks.get 3).state ≠ .closing 0 ∧
      ((at3 (.refreshing 0)).banks.get 3).state = .refreshing 0 ∧ (at3 (.refreshing 0)).refresh.conditioning ≠ .trailing ∧
      ((at3 (.refreshing 1)).banks.get 3).state ≠ .refreshing 0) ∧
    (let s := (conditioning .trailing).modBank 3 fun k => { k with state := .refreshing 0 }
     s.Released ∧ s.refresh.conditioning = .trailing ∧ (s.banks.get 3).state = .refreshing 0) ∧
    (conditioning .clearing).refresh.conditioning ≠ .trailing ∧
    (let s := served.modBank 1 fun k => { k with rowMin := some 0, writeRecovery := some 0 }
     (s.banks.get 1).rowMin = some 0 ∧ (s.banks.get 1).writeRecovery = some 0 ∧ (s.banks.get 2).rowMin ≠ some 0 ∧
       (s.banks.get 2).writeRecovery ≠ some 0) ∧
    { served with credit := { count := 4, refillTimer := 10, refillDue := true } }.credit.refillDue = true ∧
    served.credit.refillDue = false :=
  ⟨⟨rfl, by decide +kernel, fun row phys h => by simp [State.modBank] at h, by decide +kernel, by decide +kernel,
    by decide +kernel, by decide +kernel, by decide +kernel⟩, ⟨rfl, by decide +kernel, by decide +kernel⟩,
    by decide +kernel, by decide +kernel, rfl, by decide +kernel⟩

/-- One window short of the interval, and at it with debts at 7, 8 and 0, before a window that makes no flip. -/
theorem witness_IntervalExpiryRaisesDebts :
    (served.Released ∧ served.refresh.elapsed < served.runPage.refreshInterval ∧
      State.reset.mode.sched.running = false) ∧
    let s := expiring (owing (owing reading 0 7 0) 1 8 128)
    s.Released ∧ s.mode.sched.running = true ∧ s.runPage.refreshInterval ≤ s.refresh.elapsed ∧ s.AccountsInRange ∧
      s.PointersNeedRefresh ∧ s.PagesSound ∧ s.ConditioningSound ∧ ¬s.FlipsIn 0xF :=
  ⟨⟨rfl, by decide +kernel, by decide +kernel⟩, rfl, by decide +kernel, by decide +kernel,
    by unfold State.AccountsInRange; decide +kernel, by unfold State.PointersNeedRefresh; decide +kernel,
    pagesSound_of (by decide +kernel) (by decide +kernel), conditioningSound_of (by decide +kernel) (by decide +kernel),
    noFlip_of (by decide +kernel)⟩

/-- A count one short of the limit, and one two short of it; a window in which the first reaches it. -/
theorem witness_StallAbortFinishesItsRecord :
    (let r := readRecord (.active 511) 1
     let s := withQueue served [r] (openOnFive 1)
     s.Released ∧ (s.ports.get 0).queue = [] ++ r :: [] ∧ r.tag = 1 ∧ r.state = .active 511 ∧
       s.runPage.stallLimit ≤ 511 + 1 ∧ s.PagesSound ∧ s.ConditioningSound ∧ s.QueuesSound ∧ s.NoExpiry ∧
       s.stalledIn 0 0 = [r]) ∧
    let s := withQueue served [readRecord (.active 510) 1] (openOnFive 1)
    ∀ r ∈ (s.ports.get 0).queue, r.tag = 1 → ∀ n, r.state = .active n → n + 1 < s.runPage.stallLimit := by
  refine ⟨⟨rfl, by decide +kernel, rfl, rfl, by decide +kernel, pagesSound_of (by decide +kernel) (by decide +kernel),
    conditioningSound_of (by decide +kernel) (by decide +kernel), queuesSound_of (by decide +kernel) (by decide +kernel),
    fun _ => by decide +kernel, by decide +kernel⟩, ?_⟩
  intro s r hr _ n hn
  have hq : (s.ports.get 0).queue = [readRecord (.active 510) 1] := by decide +kernel
  rw [hq, List.mem_singleton] at hr
  subst hr
  cases hn
  decide +kernel

end Sys2Proof.Tests
end

section
/-! PROOFS. The PRST line of a port (R30 to R32): what its assertion and its deassertion change, and what they leave
alone. -/

namespace Sys2Proof.Machine

variable (s : State)

/-! ### Ports in reset -/

/-- A port is IN_RESET exactly while its PRST line is asserted (R13). -/
theorem Port.state_eq_inReset_iff (k : Port) : k.state = .inReset ↔ k.prst = true := by
  unfold Port.state
  split
  next h => simp [h]
  next h => split <;> simp [h]

/-- Off PRST, the enable setting names the port's state (R13). -/
theorem Port.state_of_prst_false {k : Port} (h : k.prst = false) :
    k.state = if k.enabled = true then .enabled else .disabled := by
  simp [Port.state, h]

/-! ### What the assertion is made of -/

/-- The end of a port's records leaves its queue empty and adds the given notices; the other ports stay as they are. -/
theorem State.emptyPort_ports (p : PortId) (f : List Record → List Notice) :
    (s.emptyPort p f).ports = put s.ports p
      { s.ports.get p with queue := [], outbound := (s.ports.get p).outbound ++ f (s.ports.get p).queue } := by
  simp [State.emptyPort, State.modPort]

/-- The completion of a drain changes mode control and the event queue alone (R145). -/
theorem State.settleDrain_eq :
    s.settleDrain = { s with mode := s.settleDrain.mode, events := s.settleDrain.events } := by
  unfold State.settleDrain
  split
  · unfold State.post; split <;> rfl
  · rfl

/-! ### The assertion of PRST -/

/-- The assertion on a port in reset already changes nothing (R31). -/
theorem State.assertPrst_of_prst {p : PortId} (h : (s.ports.get p).prst = true) : s.assertPrst p = s := by
  simp only [State.assertPrst, (Port.state_eq_inReset_iff _).2 h]

/-- The assertion on any other port silences it, takes the level over, and lets the drain complete (R30, R145). -/
theorem State.assertPrst_of_not_prst {p : PortId} (h : (s.ports.get p).prst = false) :
    s.assertPrst p = ((s.silencePort p).modPort p fun k => { k with prst := true }).settleDrain := by
  have hne : (s.ports.get p).state ≠ .inReset := by simp [Port.state_eq_inReset_iff, h]
  unfold State.assertPrst
  split
  next heq => exact absurd heq hne
  next => rfl

/-- What the assertion does to the ports: the port's queue is empty, its notices are those it had (R30). -/
theorem State.assertPrst_ports {p : PortId} (h : (s.ports.get p).prst = false) :
    (s.assertPrst p).ports = put s.ports p { s.ports.get p with prst := true, queue := [] } := by
  rw [s.assertPrst_of_not_prst h, State.settleDrain_ports]
  simp [State.silencePort, State.modPort, State.emptyPort_ports]

theorem State.assertPrst_regions {p : PortId} (h : (s.ports.get p).prst = false) :
    (s.assertPrst p).regions = ((s.ports.get p).queue.foldl State.release s).regions := by
  rw [s.assertPrst_of_not_prst h, State.settleDrain_regions]
  rfl

theorem State.assertPrst_banks {p : PortId} (h : (s.ports.get p).prst = false) :
    (s.assertPrst p).banks = ((s.ports.get p).queue.foldl State.release s).banks := by
  rw [s.assertPrst_of_not_prst h, State.settleDrain_banks]
  rfl

/-- The frame of the assertion: besides the port, what its records give back and what a completed drain changes. -/
theorem State.assertPrst_eq {p : PortId} (h : (s.ports.get p).prst = false) :
    s.assertPrst p = { s with
      ports := put s.ports p { s.ports.get p with prst := true, queue := [] }
      regions := (s.assertPrst p).regions
      banks := (s.assertPrst p).banks
      mode := (s.assertPrst p).mode
      events := (s.assertPrst p).events } := by
  rw [← s.assertPrst_ports h, s.assertPrst_of_not_prst h]
  refine (State.settleDrain_eq _).trans ?_
  simp [State.silencePort]

/-- Mode control's part in the assertion: the drain may complete, and nothing else is posted (R30, R145). -/
theorem State.assertPrst_settled {p : PortId} (h : (s.ports.get p).prst = false) : s.Settled (s.assertPrst p) := by
  rw [s.assertPrst_of_not_prst h]
  exact State.Settled.of_eq (by simp [State.silencePort]) (by simp [State.silencePort])

end Sys2Proof.Machine

open Sys2Proof Sys2Proof.Machine

/-- Settles O44, from the frame of the assertion and the release of the port's records. -/
theorem prstSilencesPort : Obligations.PrstSilencesPort := by
  intro s p
  refine ⟨fun h => ⟨s.assertPrst p, exec_prstAssert p, s.assertPrst_eq h, ?_, ?_, ?_, s.assertPrst_settled h⟩,
    fun h => ?_, s.deassertPrst p, exec_prstDeassert p, rfl, ?_⟩
  · rw [Port.state_eq_inReset_iff, s.assertPrst_ports h, get_put_self]
  · unfold State.CountsLowered
    rw [s.assertPrst_regions h]
    exact s.releaseAll_counts _
  · unfold State.PinsLowered
    rw [s.assertPrst_banks h]
    exact s.releaseAll_pins _
  · rw [exec_prstAssert, s.assertPrst_of_prst h]
  · rw [State.deassertPrst, State.modPort_get_self]
    exact Port.state_of_prst_false rfl

end

section
/-! PROOFS. The pin law (R71) of one bank against a list of records, and of a state; what a change of the queues or of
the banks has to do to keep it. -/

namespace Sys2Proof.Machine

/-! ### The pins of one bank against a list of records -/

/-- The law of R71 for bank `b` with the entry `k`, where `l` are the outstanding records. -/
structure Bank.PinnedBy (k : Bank) (b : BankId) (l : List Record) : Prop where
  count : k.pins = l.countP fun r => r.isActive && r.bank == b
  opened : k.pins ≠ 0 → k.isOpen = true
  row : ∀ r ∈ l, r.isActive = true → r.bank = b → k.openRow? = some r.row

/-- What tells a record in its queue, and what its pin rests on. -/
def Record.pinKey (r : Record) : Fin 16 × Bool × BankId × Fin 2048 := (r.tag, r.isActive, r.bank, r.row)

theorem Record.pinKey_eq {r q : Record} (h : r.pinKey = q.pinKey) :
    r.tag = q.tag ∧ r.isActive = q.isActive ∧ r.bank = q.bank ∧ r.row = q.row := by
  simpa [Record.pinKey] using h

namespace Bank.PinnedBy

variable {k k' : Bank} {b : BankId} {l m : List Record}

theorem perm (h : k.PinnedBy b l) (hp : l.Perm m) : k.PinnedBy b m where
  count := h.count.trans (hp.countP_eq _)
  opened := h.opened
  row r hr := h.row r (hp.mem_iff.2 hr)

/-- A bank with an ACTIVE record has a pin. -/
theorem pins_ne_zero (h : k.PinnedBy b l) {r : Record} (hr : r ∈ l) (ha : r.isActive = true) (hb : r.bank = b) :
    k.pins ≠ 0 := by
  rw [h.count]
  exact (List.countP_pos_iff.2 ⟨r, hr, by simp [ha, hb]⟩).ne'

/-- A bank that is not OPEN has no pin. -/
theorem pins_eq_zero (h : k.PinnedBy b l) (hk : k.isOpen = false) : k.pins = 0 := by
  by_contra hp
  simp [h.opened hp] at hk

/-- The timers and the mark are free, and so is the state of a bank without a pin. -/
theorem of_state (h : k.PinnedBy b l) (hp : k'.pins = k.pins) (hs : k.pins ≠ 0 → k'.state = k.state) :
    k'.PinnedBy b l where
  count := hp.trans h.count
  opened hk := by
    have hk' : k.pins ≠ 0 := hp ▸ hk
    simpa [Bank.isOpen, hs hk'] using h.opened hk'
  row r hr ha hb := by
    simpa [Bank.openRow?, hs (h.pins_ne_zero hr ha hb)] using h.row r hr ha hb

/-- Where no record is ACTIVE, a bank without a pin keeps the law. -/
theorem of_none (hk : k.pins = 0) (hl : ∀ r ∈ l, r.isActive = true → r.bank ≠ b) : k.PinnedBy b l where
  count := by
    rw [hk, eq_comm, List.countP_eq_zero]
    intro r hr
    simpa using hl r hr
  opened h := absurd hk h
  row r hr ha hb := absurd hb (hl r hr ha)

/-- The records `l` leave, each giving back its pin (R82). -/
theorem release (h : k.PinnedBy b (l ++ m)) :
    Bank.PinnedBy { k with pins := k.pins - l.countP fun r => r.isActive && r.bank == b } b m where
  count := by simp [h.count]
  opened hk := h.opened fun h0 => hk (by simp [h0])
  row r hr := h.row r (List.mem_append_right _ hr)

/-- The law speaks of the keys of the records alone. -/
theorem of_keys (h : k.PinnedBy b l) (hm : m.map Record.pinKey = l.map Record.pinKey) : k.PinnedBy b m where
  count := by
    have hc : ∀ l : List Record, (l.countP fun r => r.isActive && r.bank == b) =
        (l.map Record.pinKey).countP fun x => x.2.1 && x.2.2.1 == b := fun l => by
      rw [List.countP_map]; rfl
    rw [h.count, hc, hc, hm]
  opened := h.opened
  row r hr ha hb := by
    obtain ⟨q, hq, he⟩ := List.mem_map.1 (hm ▸ List.mem_map_of_mem hr : r.pinKey ∈ l.map Record.pinKey)
    obtain ⟨-, hact, hbank, hrow⟩ := Record.pinKey_eq he
    rw [← hrow, h.row q hq (hact.trans ha) (hbank.trans hb)]

/-- The records change in place, and none begins or ceases to pin the bank. -/
theorem map {f : Record → Record} (h : k.PinnedBy b l)
    (hf : ∀ r, ((f r).isActive && (f r).bank == b) = (r.isActive && r.bank == b))
    (hr : ∀ r, (f r).isActive = true → (f r).row = r.row) : k.PinnedBy b (l.map f) where
  count := by simp only [h.count, List.countP_map, Function.comp_def, hf]
  opened := h.opened
  row q hq ha hb := by
    obtain ⟨r, hrl, rfl⟩ := List.mem_map.1 hq
    have hpin : r.isActive = true ∧ r.bank = b := by
      have := hf r
      simp_all
    rw [hr r ha, h.row r hrl hpin.1 hpin.2]

/-- One record comes to be ACTIVE on a bank that is OPEN on its row: it pins the bank, unless it did before (R46). -/
theorem activate {r q : Record} (h : k.PinnedBy b (r :: l)) (hq : q.isActive = true) (hqb : q.bank = r.bank)
    (hqr : q.row = r.row) (hk : r.bank = b → k.openOn r.row = true) :
    Bank.PinnedBy { k with pins := k.pins + if r.isActive = false ∧ r.bank = b then 1 else 0 } b (q :: l) where
  count := by
    have hc := h.count
    by_cases ha : r.isActive <;> by_cases hb : r.bank = b <;> simp_all
  opened hp := by
    by_cases hb : r.bank = b
    · have := hk hb
      simp_all [Bank.openOn, Bank.isOpen]
    · exact h.opened (by simpa [hb] using hp)
  row x hx ha hb := by
    rcases List.mem_cons.1 hx with rfl | hx
    · have := hk (hqb ▸ hb)
      simp_all [Bank.openOn, Bank.openRow?]
    · exact h.row x (List.mem_cons_of_mem _ hx) ha hb

end Bank.PinnedBy

/-- A suspension leaves a record ACTIVE only where it leaves it as it was (R48). -/
theorem Record.suspend_of_active {b : BankId} {r : Record} (h : (r.suspend b).isActive = true) : r.suspend b = r := by
  unfold Record.suspend at h ⊢
  split
  next hc => rw [if_pos hc] at h; cases h
  · rfl

/-- A suspension touches no record of another bank. -/
theorem Record.suspend_active_on {b c : BankId} (h : b ≠ c) (r : Record) :
    ((r.suspend b).isActive && (r.suspend b).bank == c) = (r.isActive && r.bank == c) := by
  unfold Record.suspend
  split
  next hc =>
    obtain ⟨-, rfl⟩ : r.isActive = true ∧ r.bank = b := by simpa using hc
    simp [Record.isActive, h]
  · rfl

theorem Record.suspend_tag (b : BankId) (r : Record) : (r.suspend b).tag = r.tag := by
  unfold Record.suspend; split <;> rfl

theorem Record.grow_pinKey (r : Record) : r.grow.pinKey = r.pinKey := by
  unfold Record.grow; split <;> [rfl; (split <;> rfl)]

theorem Record.stallMore_pinKey (r : Record) : r.stallMore.pinKey = r.pinKey := by
  unfold Record.stallMore
  split
  next h => simp [Record.pinKey, Record.isActive, h]
  · rfl

/-! ### A record of a queue by its tag -/

/-- The first record that meets `p` comes first, the others keep their order. -/
theorem perm_cons_eraseP {l : List Record} {p : Record → Bool} {r : Record} (h : l.find? p = some r) :
    l.Perm (r :: l.eraseP p) := by
  induction l with
  | nil => simp at h
  | cons q l ih =>
    by_cases hq : p q = true
    · simp_all
    · rw [List.find?_cons_of_neg hq] at h
      rw [List.eraseP_cons_of_neg hq]
      exact ((ih h).cons q).trans (.swap ..)

/-- Where no tag stands twice, the record with a tag is the one found under it. -/
theorem find?_tag {l : List Record} (hl : (l.map Record.tag).Nodup) {r : Record} (hr : r ∈ l) :
    (l.find? fun q => q.tag == r.tag) = some r := by
  induction l with
  | nil => simp at hr
  | cons q l ih =>
    obtain ⟨hq, hl⟩ := List.nodup_cons.1 hl
    rcases List.mem_cons.1 hr with rfl | hr
    · simp
    · have hne : q.tag ≠ r.tag := fun h => hq (h ▸ List.mem_map_of_mem hr)
      rw [List.find?_cons_of_neg (by simpa using hne), ih hl hr]

/-- Where no tag stands twice, a change of the record with a tag changes one record. -/
theorem perm_map_tag {l : List Record} (hl : (l.map Record.tag).Nodup) {r : Record} (hr : r ∈ l) (q : Record) :
    (l.map fun x => if x.tag == r.tag then q else x).Perm (q :: l.eraseP fun x => x.tag == r.tag) := by
  induction l with
  | nil => simp at hr
  | cons x l ih =>
    obtain ⟨hx, hl⟩ := List.nodup_cons.1 hl
    rcases List.mem_cons.1 hr with rfl | hr
    · have hid : ∀ y ∈ l, (if y.tag == r.tag then q else y) = y := fun y hy =>
        if_neg fun he => hx ((beq_iff_eq.1 he : y.tag = r.tag) ▸ List.mem_map_of_mem hy)
      rw [List.map_cons, if_pos (by simp), List.eraseP_cons_of_pos (by simp), List.map_congr_left hid, List.map_id']
    · have hne : ¬(x.tag == r.tag) = true := fun h =>
        hx ((beq_iff_eq.1 h : x.tag = r.tag) ▸ List.mem_map_of_mem hr)
      rw [List.map_cons, if_neg hne, List.eraseP_cons_of_neg (p := fun y : Record => y.tag == r.tag) hne]
      exact ((ih hl hr).cons x).trans (.swap ..)

/-- A change of the record with a tag to one with the same tag changes no tag. -/
theorem map_tag_map_tag {l : List Record} {r q : Record} (h : q.tag = r.tag) :
    (l.map fun x => if x.tag == r.tag then q else x).map Record.tag = l.map Record.tag := by
  rw [List.map_map]
  refine List.map_congr_left fun x _ => ?_
  simp only [Function.comp_apply]
  split
  next hx => rw [h, beq_iff_eq.1 hx]
  · rfl

variable {s t : State}

/-! ### The five queues -/

theorem State.mem_outstanding {r : Record} : r ∈ s.outstanding ↔ ∃ who, r ∈ s.queueOf who := by
  have hall : ∀ who, who ∈ allRequesters := by
    intro who
    cases who with
    | port p => revert p; decide
    | host => decide
  simp [State.outstanding, hall]

theorem State.outstanding_congr (h : t.queueOf = s.queueOf) : t.outstanding = s.outstanding := by
  unfold State.outstanding; rw [h]

/-- The records `l` that leave one queue leave the outstanding records. -/
theorem State.outstanding_perm {who : Requester} {l : List Record} (h : (s.queueOf who).Perm (l ++ t.queueOf who))
    (hne : ∀ w, w ≠ who → t.queueOf w = s.queueOf w) : s.outstanding.Perm (l ++ t.outstanding) := by
  have hone : allRequesters.flatMap (fun w => if w = who then l else []) = l := by
    cases who with
    | port p => fin_cases p <;> simp [allRequesters]
    | host => simp [allRequesters]
  have hall : ∀ w ∈ allRequesters, (s.queueOf w).Perm ((if w = who then l else []) ++ t.queueOf w) := by
    intro w _
    split
    next hw => exact hw ▸ h
    next hw => simp [hne w hw]
  calc
    List.Perm s.outstanding (allRequesters.flatMap fun w => (if w = who then l else []) ++ t.queueOf w) :=
      .flatMap_left _ hall
    List.Perm _ (allRequesters.flatMap (fun w => if w = who then l else []) ++ t.outstanding) :=
      (List.flatMap_append_perm ..).symm
    _ = l ++ t.outstanding := by rw [hone]

/-- An update of a port is one of its queue, and of no other. -/
theorem State.modPort_queueOf (s : State) (p : PortId) (f : Port → Port) (who : Requester) :
    (s.modPort p f).queueOf who = if who = .port p then (f (s.ports.get p)).queue else s.queueOf who := by
  cases who with
  | port q => simp only [State.queueOf, State.modPort_get, Requester.port.injEq, eq_comm, apply_ite Port.queue]
  | host => rfl

theorem State.modPort_queueOf_of_ne (s : State) {p : PortId} {f : Port → Port} {who : Requester} (h : who ≠ .port p) :
    (s.modPort p f).queueOf who = s.queueOf who := by
  rw [State.modPort_queueOf, if_neg h]

/-! ### The law of a state -/

theorem State.pinLaw_iff : s.PinLaw ↔ ∀ b, (s.banks.get b).PinnedBy b s.outstanding :=
  forall_congr' fun _ => ⟨fun ⟨hc, ho, hr⟩ => ⟨hc, ho, hr⟩, fun ⟨hc, ho, hr⟩ => ⟨hc, ho, hr⟩⟩

/-- The pin law, with what a happening that names a record by its tag needs: no tag stands twice in a queue. -/
structure State.PinsSound (s : State) : Prop where
  pins : ∀ b, (s.banks.get b).PinnedBy b s.outstanding
  tags : ∀ who, ((s.queueOf who).map Record.tag).Nodup

theorem State.PinsSound.pinLaw (h : s.PinsSound) : s.PinLaw := State.pinLaw_iff.2 h.pins

theorem State.PinLaw.pinsSound (h : s.PinLaw) (hq : s.QueuesSound) (hh : s.HostQueueSound) : s.PinsSound where
  pins := State.pinLaw_iff.1 h
  tags
    | .port p => (hq.1 p).tagsDistinct
    | .host => hh.tagsDistinct

/-- What the pin law speaks of: the five queues and the banks. -/
def State.pinBook (s : State) : (Requester → List Record) × Vector Bank 4 := (s.queueOf, s.banks)

theorem State.pinBook_eq (h : t.pinBook = s.pinBook) : t.queueOf = s.queueOf ∧ t.banks = s.banks := Prod.mk.inj h

namespace State.PinsSound

/-- The law speaks of the five queues and the banks alone. -/
theorem congr (h : s.PinsSound) (ht : t.pinBook = s.pinBook) : t.PinsSound := by
  obtain ⟨hq, hb⟩ := State.pinBook_eq ht
  exact ⟨fun b => by rw [hb, State.outstanding_congr hq]; exact h.pins b, fun who => by rw [hq]; exact h.tags who⟩

/-- The queues stay, and so do the pins and the state of every bank with a pin. -/
theorem of_banks (h : s.PinsSound) (hq : t.queueOf = s.queueOf)
    (hp : ∀ b, (t.banks.get b).pins = (s.banks.get b).pins)
    (hs : ∀ b, (s.banks.get b).pins ≠ 0 → (t.banks.get b).state = (s.banks.get b).state) : t.PinsSound where
  pins b := by
    rw [State.outstanding_congr hq]
    exact (h.pins b).of_state (hp b) (hs b)
  tags who := by rw [hq]; exact h.tags who

/-- The records `l` of one queue finish, and give their pins back (R47, R82). -/
theorem of_finished (h : s.PinsSound) {who : Requester} {l : List Record}
    (hl : (s.queueOf who).Perm (l ++ t.queueOf who)) (hne : ∀ w, w ≠ who → t.queueOf w = s.queueOf w)
    (hb : s.PinsLowered t l) : t.PinsSound where
  pins b := by
    rw [hb b]
    exact ((h.pins b).perm (State.outstanding_perm hl hne)).release
  tags w := by
    by_cases hw : w = who
    · subst hw
      have hnd := ((hl.map Record.tag).nodup_iff).1 (h.tags w)
      rw [List.map_append] at hnd
      exact hnd.of_append_right
    · rw [hne w hw]
      exact h.tags w

/-- The records change in place, and keep their keys. -/
theorem of_keys (h : s.PinsSound)
    (hq : ∀ who, (t.queueOf who).map Record.pinKey = (s.queueOf who).map Record.pinKey) (hb : t.banks = s.banks) :
    t.PinsSound where
  pins b := by
    rw [hb]
    exact (h.pins b).of_keys (by simp only [State.outstanding, List.map_flatMap, hq])
  tags who := by
    have htag : ∀ l : List Record, l.map Record.tag = (l.map Record.pinKey).map Prod.fst := fun l => by
      rw [List.map_map]; rfl
    rw [htag, hq, ← htag]
    exact h.tags who

/-- One bank changes, not its pins, and not its state where it has a pin. -/
theorem modBank (h : s.PinsSound) (b : BankId) {f : Bank → Bank} (hp : (f (s.banks.get b)).pins = (s.banks.get b).pins)
    (hs : (s.banks.get b).pins ≠ 0 → (f (s.banks.get b)).state = (s.banks.get b).state) :
    (s.modBank b f).PinsSound := by
  refine h.of_banks rfl (fun c => ?_) (fun c => ?_) <;> rw [State.modBank_get] <;> split
  next hc => exact hc ▸ hp
  next => rfl
  next hc => exact hc ▸ hs
  next => exact fun _ => rfl

/-- A bank that is not OPEN may change its state. -/
theorem modBank_of_not_open (h : s.PinsSound) {b : BankId} (hk : (s.banks.get b).isOpen = false) {f : Bank → Bank}
    (hp : (f (s.banks.get b)).pins = (s.banks.get b).pins) : (s.modBank b f).PinsSound :=
  h.modBank b hp fun hne => absurd ((h.pins b).pins_eq_zero hk) hne

end State.PinsSound

end Sys2Proof.Machine
end

section
/-! PROOFS. The happenings that move records, pins or the state of a bank, and the pin law (R71): finishes, bursts,
suspensions, expiries, flips, the bank timers and stall aborts. -/

namespace Sys2Proof.Machine

variable {s t : State}

/-! ### What leaves the queues and the banks as they are -/

@[simp] theorem State.post_pinBook (s : State) (k : EventKind) (o : Source) (g : Option (Fin 16)) (d : Nat) :
    (s.post k o g d).pinBook = s.pinBook := by
  unfold State.post; split <;> rfl

@[simp] theorem State.setResult_pinBook (s : State) (r : Result) : (s.setResult r).pinBook = s.pinBook := rfl

@[simp] theorem State.setSched_pinBook (s : State) (st : SchedState) : (s.setSched st).pinBook = s.pinBook := rfl

@[simp] theorem State.refresh_pinBook (s : State) (r : RefreshEngine) :
    { s with refresh := r }.pinBook = s.pinBook := rfl

@[simp] theorem State.modAccount_pinBook (s : State) (b : BankId) (f : Account → Account) :
    (s.modAccount b f).pinBook = s.pinBook := rfl

@[simp] theorem State.modSlot_pinBook (s : State) (k : SlotId) (f : Slot → Slot) :
    (s.modSlot k f).pinBook = s.pinBook := rfl

@[simp] theorem State.settleDrain_pinBook (s : State) : s.settleDrain.pinBook = s.pinBook := by
  unfold State.settleDrain; split <;> simp

/-- An update of a port that leaves its queue. -/
theorem State.modPort_pinBook (s : State) (p : PortId) {f : Port → Port}
    (h : (f (s.ports.get p)).queue = (s.ports.get p).queue) : (s.modPort p f).pinBook = s.pinBook := by
  have hq : (s.modPort p f).queueOf = s.queueOf := by
    funext who
    rw [State.modPort_queueOf]
    split
    next hw => rw [hw, h]; rfl
    next => rfl
  simp [State.pinBook, hq]

@[simp] theorem State.notify_pinBook (s : State) (p : PortId) (n : Notice) : (s.notify p n).pinBook = s.pinBook :=
  s.modPort_pinBook p rfl

/-- The ports change, each but for its queue. -/
theorem State.ports_pinBook (s : State) {ports : Vector Port 4} (d : Bool)
    (h : ∀ p, (ports.get p).queue = (s.ports.get p).queue) :
    { s with ports := ports, decided := d }.pinBook = s.pinBook := by
  simp only [State.pinBook, State.queueOf_ports h]

theorem State.beginWindow_queue (s : State) (p : PortId) :
    (s.beginWindow.ports.get p).queue = (s.ports.get p).queue := by
  obtain ⟨-, -, -, -, hqueue⟩ := s.beginWindow_port_keeps p
  exact hqueue

@[simp] theorem State.beginWindow_pinBook (s : State) : s.beginWindow.pinBook = s.pinBook := by
  rw [s.beginWindow_eq]
  exact s.ports_pinBook _ s.beginWindow_queue

@[simp] theorem State.inWindow_pinBook (s : State) (next : Bool) : (s.inWindow next).pinBook = s.pinBook := by
  cases next
  · rfl
  · exact s.beginWindow_pinBook

@[simp] theorem State.sampleReady_pinBook (s : State) (ready : BitVec 4) : (s.sampleReady ready).pinBook = s.pinBook :=
  s.ports_pinBook s.decided fun p => by simp

@[simp] theorem State.retireOne_pinBook (s : State) (b : BankId) : (s.retireOne b).pinBook = s.pinBook := by
  unfold State.retireOne; dsimp only; split <;> rfl

@[simp] theorem State.retireUpTo_pinBook (s : State) (b : BankId) (n : Nat) :
    (s.retireUpTo b n).pinBook = s.pinBook := by
  induction n generalizing s with
  | zero => rfl
  | succ n ih => unfold State.retireUpTo; split <;> simp [ih]

@[simp] theorem State.retirementCheck_pinBook (s : State) (b : BankId) : (s.retirementCheck b).pinBook = s.pinBook :=
  s.retireUpTo_pinBook ..

@[simp] theorem State.refill_pinBook (s : State) : s.refill.pinBook = s.pinBook := by
  unfold State.refill; split <;> rfl

@[simp] theorem State.endConditioning_pinBook (s : State) : s.endConditioning.pinBook = s.pinBook := by
  unfold State.endConditioning; rw [State.post_pinBook]; rfl

@[simp] theorem State.flipPages_pinBook (s : State) : s.flipPages.pinBook = s.pinBook := rfl

@[simp] theorem State.sampleWord_pinBook (s : State) (r : Record) : (s.sampleWord r).pinBook = s.pinBook := by
  unfold State.sampleWord; split <;> [rfl; (split <;> rfl)]

/-! ### Records that finish (R47) -/

theorem State.release_pinsLowered {r q : Record} (ha : q.isActive = r.isActive) (hb : q.bank = r.bank) :
    s.PinsLowered (s.release r) [q] := by
  intro b
  rw [State.release_bank]
  simp only [List.countP_cons, List.countP_nil, ha, hb, Bool.and_eq_true, beq_iff_eq, Nat.zero_add]

/-- A client record finishes that its queue holds under its tag. -/
theorem State.PinsSound.finishClient (h : s.PinsSound) {p : PortId} {r q : Record}
    (hq : ((s.ports.get p).queue.find? fun x => x.tag == r.tag) = some q) (ha : q.isActive = r.isActive)
    (hb : q.bank = r.bank) (st : FinishStatus) : (s.finishClient p r st).PinsSound := by
  refine h.of_finished (who := .port p) (l := [q]) ?_ (fun w hw => ?_) (State.release_pinsLowered ha hb)
  · have hqueue : (s.finishClient p r st).queueOf (.port p) = (s.ports.get p).queue.eraseP fun x => x.tag == r.tag := by
      simp [State.queueOf, State.finishClient_get]
    rw [hqueue]
    exact perm_cons_eraseP hq
  · cases w with
    | port c => simp [State.queueOf, State.finishClient_get, show p ≠ c from fun e => hw (e ▸ rfl)]
    | host => exact s.finishClient_hostQueue ..

/-- Every record of a port finishes (R29, R30). -/
theorem State.PinsSound.emptyPort (h : s.PinsSound) (p : PortId) (f : List Record → List Notice) :
    (s.emptyPort p f).PinsSound := by
  refine h.of_finished (who := .port p) (l := (s.ports.get p).queue) ?_ (fun w hw => ?_) (s.releaseAll_pins _)
  · simp [State.queueOf, State.emptyPort_get]
  · cases w with
    | port c => simp [State.queueOf, State.emptyPort_get, show p ≠ c from fun e => hw (e ▸ rfl)]
    | host => exact s.emptyPort_hostQueue ..

/-- Every host record finishes (R151). -/
theorem State.PinsSound.flushHost (h : s.PinsSound) : s.flushHost.PinsSound := by
  refine h.of_finished (who := .host) (l := s.hostQueue) ?_ (fun w hw => ?_) (s.releaseAll_pins _)
  · simp [State.queueOf]
  · cases w with
    | port c => simp [State.queueOf]
    | host => exact absurd rfl hw

/-- A host record finishes with its one burst (R46). -/
theorem State.PinsSound.burstHost (h : s.PinsSound) {r : Record} (hr : r ∈ s.hostQueue) :
    (s.burstHost r).PinsSound := by
  have hu := h.congr (s.sampleWord_pinBook r)
  have hqueue : (s.sampleWord r).hostQueue = s.hostQueue :=
    congrFun (State.pinBook_eq (s.sampleWord_pinBook r)).1 .host
  refine hu.of_finished (who := .host) (l := [r]) ?_ (fun w hw => ?_) (State.release_pinsLowered rfl rfl)
  · have hfind : ((s.sampleWord r).hostQueue.find? fun q => q.tag == r.tag) = some r :=
      find?_tag (hu.tags .host) (by simpa [State.queueOf, hqueue] using hr)
    simpa [State.queueOf, State.burstHost] using perm_cons_eraseP hfind
  · cases w with
    | port c => simp [State.queueOf, State.burstHost]
    | host => exact absurd rfl hw

/-! ### Bursts (R46) -/

/-- The bus, the rank and a write-recovery timer answer a burst; the queues and the pins do not. -/
theorem State.moveBurst_queueOf (s : State) (r : Record) (drive : Option BurstData) :
    (s.moveBurst r drive).queueOf = s.queueOf := by
  unfold State.moveBurst; dsimp only; split <;> rfl

theorem State.moveBurst_bank (s : State) (r : Record) (drive : Option BurstData) (b : BankId) :
    ∃ w, (s.moveBurst r drive).banks.get b = { s.banks.get b with writeRecovery := w } := by
  unfold State.moveBurst
  dsimp only
  split
  · exact ⟨_, rfl⟩
  · simp only [State.drive_banks, State.modBank_get]
    split
    next hb => subst hb; exact ⟨_, rfl⟩
    next => exact ⟨_, rfl⟩

theorem State.PinsSound.moveBurst (h : s.PinsSound) (r : Record) (drive : Option BurstData) :
    (s.moveBurst r drive).PinsSound := by
  refine h.of_banks (s.moveBurst_queueOf r drive) (fun b => ?_) (fun b _ => ?_) <;>
    (obtain ⟨w, hw⟩ := s.moveBurst_bank r drive b; rw [hw])

/-- A client record after a burst that is not its last (R46). -/
def Record.moved (r : Record) : Record := { r with state := .active 0, burstsDone := r.burstsDone + 1 }

/-- Port `p` without its record under the tag of `r`. -/
def State.without (s : State) (p : PortId) (r : Record) : State :=
  s.modPort p fun k => { k with queue := k.queue.eraseP fun q => q.tag == r.tag }

theorem State.without_queueOf_self (s : State) (p : PortId) (r : Record) :
    (s.without p r).queueOf (.port p) = (s.ports.get p).queue.eraseP fun q => q.tag == r.tag := by
  simp [State.without, State.modPort_queueOf]

theorem State.without_queueOf_of_ne (s : State) {p : PortId} (r : Record) {who : Requester} (h : who ≠ .port p) :
    (s.without p r).queueOf who = s.queueOf who := s.modPort_queueOf_of_ne h

theorem State.advanceClient_queueOf (s : State) (p : PortId) (r : Record) (who : Requester) :
    (s.advanceClient p r).queueOf who =
      if who = .port p then (s.ports.get p).queue.map fun q => if q.tag == r.tag then r.moved else q
      else s.queueOf who := by
  have hmod : ∀ u : State, ∀ b f, (u.modBank b f).queueOf = u.queueOf := fun _ _ _ => rfl
  unfold State.advanceClient
  dsimp only
  rw [apply_ite State.queueOf, hmod, ite_self, State.modPort_queueOf]
  rfl

theorem State.advanceClient_bank (s : State) (p : PortId) (r : Record) (b : BankId) :
    (s.advanceClient p r).banks.get b =
      { s.banks.get b with
        pins := (s.banks.get b).pins + if r.isActive = false ∧ r.bank = b then 1 else 0 } := by
  unfold State.advanceClient
  dsimp only
  cases ha : r.isActive with
  | true => simp
  | false =>
    by_cases hb : r.bank = b
    · subst hb; simp
    · simp [State.modBank_get, hb]

/-- A client record's burst that is not its last pins the bank, which is OPEN on its row. -/
theorem State.PinsSound.advanceClient (h : s.PinsSound) {p : PortId} {r : Record} (hr : r ∈ (s.ports.get p).queue)
    (hopen : (s.banks.get r.bank).openOn r.row = true) : (s.advanceClient p r).PinsSound := by
  have hnd : ((s.ports.get p).queue.map Record.tag).Nodup := h.tags (.port p)
  have hold : s.outstanding.Perm ([r] ++ (s.without p r).outstanding) := by
    refine State.outstanding_perm (who := .port p) ?_ fun w hw => s.without_queueOf_of_ne r hw
    rw [s.without_queueOf_self]
    exact perm_cons_eraseP (find?_tag hnd hr)
  have hnew : (s.advanceClient p r).outstanding.Perm ([r.moved] ++ (s.without p r).outstanding) := by
    refine State.outstanding_perm (who := .port p) ?_ fun w hw => ?_
    · rw [State.advanceClient_queueOf, if_pos rfl, s.without_queueOf_self]
      exact perm_map_tag hnd hr r.moved
    · rw [State.advanceClient_queueOf, if_neg hw, s.without_queueOf_of_ne r hw]
  constructor
  · intro b
    rw [State.advanceClient_bank]
    exact (((h.pins b).perm hold).activate (q := r.moved) rfl rfl rfl fun hb => hb ▸ hopen).perm hnew.symm
  · intro who
    rw [State.advanceClient_queueOf]
    split
    next => rwa [map_tag_map_tag (r := r) (q := r.moved) rfl]
    next => exact h.tags who

/-- A client record counts its burst (R25, R46). -/
theorem State.PinsSound.burstClient (h : s.PinsSound) {p : PortId} {r : Record} (hr : r ∈ (s.ports.get p).queue)
    (hopen : (s.banks.get r.bank).openOn r.row = true) : (s.burstClient p r).PinsSound := by
  have hn := h.congr (s.notify_pinBook p (.beat r.tag r.burstsDone))
  have hr' : r ∈ ((s.notify p (.beat r.tag r.burstsDone)).ports.get p).queue := by simpa using hr
  unfold State.burstClient
  dsimp only
  split
  · have hfind := find?_tag (hn.tags (.port p)) hr'
    exact hn.finishClient (r := { r with burstsDone := r.burstsDone + 1 }) hfind rfl rfl .ok
  · exact hn.advanceClient hr' hopen

/-- READ or WRITE for a record whose bank is OPEN on its row (R80). -/
theorem State.PinsSound.issueBurst (h : s.PinsSound) {who : Requester} {r : Record} (hr : r ∈ s.queueOf who)
    (hopen : (s.banks.get r.bank).openOn r.row = true) (drive : Option BurstData) :
    (s.issueBurst who r drive).PinsSound := by
  have hm := h.moveBurst r drive
  have hr' : r ∈ (s.moveBurst r drive).queueOf who := s.moveBurst_queueOf r drive ▸ hr
  cases who with
  | port p =>
    obtain ⟨w, hw⟩ := s.moveBurst_bank r drive r.bank
    exact hm.burstClient hr' (by rw [hw]; exact hopen)
  | host => exact hm.burstHost hr'

/-! ### Critical suspension and expiry (R48, R112, R114) -/

theorem State.suspendBank_queueOf (s : State) (b : BankId) (who : Requester) :
    (s.suspendBank b).queueOf who = (s.queueOf who).map (Record.suspend b) := by
  cases who <;> simp [State.queueOf]

theorem State.PinsSound.suspendBank (h : s.PinsSound) (b : BankId) : (s.suspendBank b).PinsSound where
  pins c := by
    have ho : (s.suspendBank b).outstanding = s.outstanding.map (Record.suspend b) := by
      simp only [State.outstanding, funext (s.suspendBank_queueOf b), List.map_flatMap]
    rw [ho, State.suspendBank_bank]
    split
    next hb =>
      subst hb
      refine .of_none rfl fun q hq ha hqb => ?_
      obtain ⟨r, -, rfl⟩ := List.mem_map.1 hq
      exact r.suspend_not_active b ⟨ha, hqb⟩
    next hb => exact (h.pins c).map (Record.suspend_active_on hb) fun r ha => by rw [Record.suspend_of_active ha]
  tags who := by
    rw [State.suspendBank_queueOf, List.map_map, show Record.tag ∘ Record.suspend b = Record.tag from
      funext (Record.suspend_tag b)]
    exact h.tags who

theorem State.PinsSound.expiryAt (h : s.PinsSound) (b : BankId) : (s.expiryAt b).PinsSound := by
  unfold State.expiryAt
  dsimp only
  split
  · have hm := h.congr (s.modAccount_pinBook b fun a => { a with debt := a.debt + 1 })
    split
    · exact (hm.suspendBank b).congr (State.post_pinBook ..)
    · exact hm
  · exact h.congr (State.post_pinBook ..)

theorem State.PinsSound.takeExpiry (h : s.PinsSound) : s.takeExpiry.PinsSound := by
  have hex : (allBanks.foldl State.expiryAt s).PinsSound :=
    foldl_induct State.PinsSound State.expiryAt (fun _ b hs => hs.expiryAt b) _ _ h
  have hchk := foldl_induct State.PinsSound State.retirementCheck (fun u b hu => hu.congr (u.retirementCheck_pinBook b))
    allBanks _ hex
  unfold State.takeExpiry
  exact hchk.congr (State.refresh_pinBook ..)

theorem State.PinsSound.intervalExpiry (h : s.PinsSound) : s.intervalExpiry.PinsSound := by
  unfold State.intervalExpiry
  split
  · exact h.takeExpiry
  · exact h

/-! ### The flip (R131, R146, R147) -/

theorem State.PinsSound.takeFlip (h : s.PinsSound) (ret : ReturnState) : (s.takeFlip ret).PinsSound := by
  have hf := h.congr s.flipPages_pinBook
  unfold State.takeFlip State.postSwitchDone
  dsimp only
  refine State.PinsSound.congr ?_ ((State.post_pinBook ..).trans (State.setSched_pinBook ..))
  split
  · exact hf.takeExpiry
  · exact hf

theorem State.PinsSound.testWrap (h : s.PinsSound) : s.testWrap.PinsSound := by
  have ht : { s with arbiter := { s.arbiter with wrapHanded := false } }.PinsSound := h.congr rfl
  unfold State.testWrap
  dsimp only
  split
  · split
    · split
      · exact ht.takeFlip _
      · exact ht
    · exact ht
  · exact h

theorem State.PinsSound.advanceWheel (h : s.PinsSound) : s.advanceWheel.PinsSound := by
  unfold State.advanceWheel
  split
  · exact h.congr rfl
  · exact State.PinsSound.testWrap (h.congr rfl)

/-! ### The bank timers (R72) -/

theorem State.PinsSound.openDelayExpiry (h : s.PinsSound) (b : BankId) : (s.openDelayExpiry b).PinsSound := by
  unfold State.openDelayExpiry
  split
  next hb => exact h.modBank_of_not_open (by simp [Bank.isOpen, hb]) rfl
  · exact h

theorem State.PinsSound.closeDelayExpiry (h : s.PinsSound) (b : BankId) : (s.closeDelayExpiry b).PinsSound := by
  unfold State.closeDelayExpiry
  split
  next hb => exact h.modBank_of_not_open (by simp [Bank.isOpen, hb]) rfl
  · exact h

theorem State.PinsSound.refreshTimeExpiry (h : s.PinsSound) (b : BankId) : (s.refreshTimeExpiry b).PinsSound := by
  unfold State.refreshTimeExpiry
  split
  next hb =>
    have hc : (s.modBank b fun k => { k with state := .closed }).PinsSound :=
      h.modBank_of_not_open (by simp [Bank.isOpen, hb]) rfl
    dsimp only
    split
    · exact hc.congr (State.endConditioning_pinBook _)
    · exact hc
  · exact h

theorem State.PinsSound.rowMinExpiry (h : s.PinsSound) (b : BankId) : (s.rowMinExpiry b).PinsSound := by
  unfold State.rowMinExpiry
  split
  · exact h.modBank b rfl fun _ => rfl
  · exact h

theorem State.PinsSound.writeRecoveryExpiry (h : s.PinsSound) (b : BankId) : (s.writeRecoveryExpiry b).PinsSound := by
  unfold State.writeRecoveryExpiry
  split
  · exact h.modBank b rfl fun _ => rfl
  · exact h

theorem State.PinsSound.bankRunOuts (h : s.PinsSound) (b : BankId) : (s.bankRunOuts b).PinsSound :=
  ((((h.openDelayExpiry b).closeDelayExpiry b).refreshTimeExpiry b).rowMinExpiry b).writeRecoveryExpiry b

theorem State.PinsSound.conditioningEnd (h : s.PinsSound) : s.conditioningEnd.PinsSound := by
  unfold State.conditioningEnd
  split
  · exact h.refreshTimeExpiry 3
  · exact h

theorem State.PinsSound.takeDue (h : s.PinsSound) : s.takeDue.PinsSound := by
  have hr : (allBanks.foldl State.bankRunOuts s).PinsSound :=
    foldl_induct State.PinsSound State.bankRunOuts (fun _ b hs => hs.bankRunOuts b) _ _ h
  exact (hr.congr (State.refill_pinBook _)).intervalExpiry

/-! ### Stall aborts (R55) -/

theorem State.abortRecord_queue (s : State) (p : PortId) (r : Record) :
    ((State.abortRecord p s r).ports.get p).queue = (s.ports.get p).queue.eraseP fun q => q.tag == r.tag := by
  simp [State.abortRecord, State.finishClient_get]

theorem State.PinsSound.abortRecord (h : s.PinsSound) {p : PortId} {r : Record} (hr : r ∈ (s.ports.get p).queue) :
    (State.abortRecord p s r).PinsSound :=
  (h.finishClient (find?_tag (h.tags (.port p)) hr) rfl rfl .stalled).congr (State.post_pinBook ..)

/-- The aborts of records that stand in the queue in this order: each leaves the others in it. -/
theorem State.PinsSound.abortAll {p : PortId} {l : List Record} (h : s.PinsSound)
    (hl : l.Sublist (s.ports.get p).queue) : (l.foldl (State.abortRecord p) s).PinsSound := by
  induction l generalizing s with
  | nil => exact h
  | cons r l ih =>
    refine ih (h.abortRecord (hl.subset List.mem_cons_self)) ?_
    rw [State.abortRecord_queue]
    simpa using hl.eraseP (p := fun q => q.tag == r.tag)

theorem State.PinsSound.stallPort (h : s.PinsSound) (p : PortId) : (s.stallPort p).PinsSound := by
  have hm : (s.modPort p fun k => { k with queue := k.queue.map Record.stallMore }).PinsSound := by
    refine h.of_keys (fun who => ?_) rfl
    rw [State.modPort_queueOf]
    split
    next hw =>
      rw [hw, List.map_map, show Record.pinKey ∘ Record.stallMore = Record.pinKey from funext Record.stallMore_pinKey]
      rfl
    next => rfl
  unfold State.stallPort
  dsimp only
  split
  · exact h
  · exact hm.abortAll List.filter_sublist

/-- STALL_ABORT ahead of its window's decision (R55, R109). -/
theorem State.PinsSound.stallAbort (h : s.PinsSound) (p : PortId) (tag : Fin 16) : (s.stallAbort p tag).PinsSound := by
  have hw := h.congr s.beginWindow_pinBook
  have hlow : (s.beginWindow.modPort p fun k => { k with ready := false, sampledLow := true }).PinsSound :=
    hw.congr (State.modPort_pinBook _ p rfl)
  unfold State.stallAbort
  split
  next r hr =>
    split
    · refine (hlow.abortRecord ?_).congr (State.settleDrain_pinBook _)
      simpa [s.beginWindow_queue p] using List.mem_of_find?_eq_some hr
    · exact h
  · exact h

end Sys2Proof.Machine
end

section
/-! PROOFS. A decision and its window, and the pin law (R71): whatever a decision chooses, the bank and the queues
grant. -/

namespace Sys2Proof.Machine

variable {s t : State}

/-! ### What a decision may choose (R79 to R81, R97) -/

/-- What the bank and the queues grant the action. -/
def State.Allows (s : State) : Action → Prop
  | .closeAll => s.mode.sched = .init
  | .condition b => (s.banks.get b).isClosed = true
  | .refresh b => (s.banks.get b).isClosed = true
  | .close b => (s.banks.get b).closeAllowed = true
  | .openFor b _ => (s.banks.get b).isClosed = true
  | .burst who r => r ∈ s.queueOf who ∧ (s.banks.get r.bank).openOn r.row = true

theorem mem_of_firstOf {α : Type} {l : List (Option α)} {a : α} (h : firstOf l = some a) : some a ∈ l := by
  obtain ⟨o, ho, rfl⟩ := List.exists_of_findSome?_eq_some h
  exact ho

/-- What a record of a queue offers, its bank grants (R97). -/
theorem State.offer_allowed {who : Requester} {older : List Record} {r : Record} {o : Offer} (hq : r ∈ s.queueOf who)
    (h : s.offer who older r = some o) : s.Allows (offerAction who (r, o)) := by
  unfold State.offer at h
  dsimp only at h
  split_ifs at h with _ hopen _ _ hclosed _ hclose <;> obtain rfl := Option.some.inj h
  · exact ⟨hq, hopen⟩
  · exact hclosed
  · exact hclose

/-- An offer of a queue is that of one of its records. -/
theorem State.mem_offersFrom {who : Requester} {x : Record × Offer} {l older : List Record}
    (h : x ∈ s.offersFrom who older l) : x.1 ∈ l ∧ ∃ o, s.offer who o x.1 = some x.2 := by
  induction l generalizing older with
  | nil => simp [State.offersFrom] at h
  | cons r rest ih =>
    unfold State.offersFrom at h
    split at h
    next o ho =>
      rcases List.mem_cons.1 h with rfl | h
      · exact ⟨List.mem_cons_self, older, ho⟩
      · exact ⟨List.mem_cons_of_mem _ (ih h).1, (ih h).2⟩
    next => exact ⟨List.mem_cons_of_mem _ (ih h).1, (ih h).2⟩

theorem State.offers_allowed {who : Requester} {x : Record × Offer} (h : x ∈ s.offers who) :
    s.Allows (offerAction who x) := by
  obtain ⟨hq, older, ho⟩ := State.mem_offersFrom h
  exact State.offer_allowed hq ho

/-- The action of the first of some searches among an owner's offers. -/
theorem State.firstOffer_allowed {who : Requester} {p q : Record × Offer → Bool} {a : Action}
    (h : (firstOf [(s.offers who).find? p, (s.offers who).find? q]).map (offerAction who) = some a) : s.Allows a := by
  obtain ⟨x, hx, rfl⟩ := Option.map_eq_some_iff.1 h
  refine State.offers_allowed ?_
  rcases List.mem_cons.1 (mem_of_firstOf hx) with he | he
  · exact List.mem_of_find?_eq_some he.symm
  · exact List.mem_of_find?_eq_some (List.mem_singleton.1 he).symm

theorem State.rowHit_allowed {who : Requester} {a : Action} (h : s.rowHit who = some a) : s.Allows a :=
  State.firstOffer_allowed h

theorem State.startAction_allowed {who : Requester} {a : Action} (h : s.startAction who = some a) : s.Allows a :=
  State.firstOffer_allowed h

theorem State.ownerAction_allowed {who : Requester} {a : Action} (h : s.ownerAction who = some a) : s.Allows a := by
  rcases List.mem_cons.1 (mem_of_firstOf h) with he | he
  · exact State.rowHit_allowed he.symm
  · exact State.startAction_allowed (List.mem_singleton.1 he).symm

theorem State.refreshable_isClosed {b : BankId} (h : s.refreshable b = true) : (s.banks.get b).isClosed = true :=
  (Bool.and_eq_true_iff.1 h).1

theorem State.criticalWork_allowed {a : Action} (h : s.criticalWork = some a) : s.Allows a := by
  obtain ⟨b, -, hb⟩ := List.exists_of_findSome?_eq_some h
  unfold State.criticalAt at hb
  split_ifs at hb with _ hr hc <;> obtain rfl := Option.some.inj hb
  · exact State.refreshable_isClosed hr
  · exact hc

theorem State.refreshWorkAt_allowed {b : BankId} {a : Action} (h : s.refreshWorkAt b = some a) : s.Allows a := by
  unfold State.refreshWorkAt at h
  split_ifs at h with hr hc <;> obtain rfl := Option.some.inj h
  · exact State.refreshable_isClosed hr
  · exact (Bool.and_eq_true_iff.1 hc).2

/-- The work of a bank that a search has found. -/
theorem State.refreshWork_allowed {o : Option BankId} {a : Action} (h : o.bind s.refreshWorkAt = some a) :
    s.Allows a := by
  obtain ⟨b, -, hb⟩ := Option.bind_eq_some_iff.1 h
  exact State.refreshWorkAt_allowed hb

/-- A CLOSE of a bank that a search has found, where the search asks that a CLOSE is allowed. -/
theorem State.foundClose_allowed {q : BankId → Bool} (hq : ∀ b, q b = true → (s.banks.get b).closeAllowed = true)
    {a : Action} (h : (allBanks.find? q).map .close = some a) : s.Allows a := by
  obtain ⟨b, hb, rfl⟩ := Option.map_eq_some_iff.1 h
  exact hq b (List.find?_some hb)

theorem State.closePendingClose_allowed {a : Action} (h : s.closePendingClose = some a) : s.Allows a :=
  State.foundClose_allowed (fun _ hb => (Bool.and_eq_true_iff.1 hb).2) h

theorem State.drainClose_allowed {a : Action} (h : s.drainClose = some a) : s.Allows a :=
  State.foundClose_allowed (fun _ hb => (Bool.and_eq_true_iff.1 (Bool.and_eq_true_iff.1 hb).1).2) h

theorem State.idleClose_allowed {a : Action} (h : s.idleClose = some a) : s.Allows a :=
  State.foundClose_allowed (fun _ hb => (Bool.and_eq_true_iff.1 (Bool.and_eq_true_iff.1 hb).1).2) h

/-- The bank with the highest debt is one of those searched. -/
theorem State.highestDebt_mem {q : BankId → Bool} {b : BankId} (h : s.highestDebt q = some b) : q b = true := by
  revert b
  unfold State.highestDebt
  refine foldl_induct (fun best : Option BankId => ∀ {b}, best = some b → q b = true) _ ?_ _ _ (by simp)
  intro best c hbest b hb
  split at hb
  next hc =>
    split at hb
    next => exact Option.some.inj hb ▸ hc
    next =>
      split at hb
      · exact Option.some.inj hb ▸ hc
      · exact hbest hb
  next => exact hbest hb

theorem State.pullIn_allowed {a : Action} (h : s.pullIn = some a) : s.Allows a := by
  obtain ⟨b, hb, rfl⟩ := Option.map_eq_some_iff.1 h
  have he := State.highestDebt_mem hb
  simp only [State.pullInEligible, Bool.and_eq_true] at he
  obtain ⟨⟨⟨⟨hclosed, -⟩, -⟩, -⟩, -⟩ := he
  exact hclosed

/-- The oldest stamp is that of one of the records compared. -/
theorem foldl_olderStamp_mem (x : Requester × Record × Offer) (l : List (Requester × Record × Offer)) :
    l.foldl olderStamp x ∈ x :: l := by
  induction l generalizing x with
  | nil => simp
  | cons y l ih =>
    have hxy : olderStamp x y = x ∨ olderStamp x y = y := by unfold olderStamp; split <;> simp
    rw [List.foldl_cons]
    rcases List.mem_cons.1 (ih (olderStamp x y)) with he | hm
    · rw [he]
      rcases hxy with hx | hy
      · simp [hx]
      · simp [hy]
    · exact List.mem_cons_of_mem _ (List.mem_cons_of_mem _ hm)

theorem State.overdueChoice_allowed {a : Action} (h : s.overdueChoice = some a) : s.Allows a := by
  have hmem : ∀ x ∈ s.overdueOffers, s.Allows (offerAction x.1 x.2) := by
    intro x hx
    obtain ⟨who, -, hx⟩ := List.mem_flatMap.1 hx
    obtain ⟨y, hy, rfl⟩ := List.mem_map.1 hx
    exact State.offers_allowed (List.mem_filter.1 hy).1
  unfold State.overdueChoice at h
  split at h
  · cases h
  next x rest heq =>
    obtain rfl := Option.some.inj h
    exact hmem _ (heq ▸ foldl_olderStamp_mem x rest)

theorem State.roundRobin_allowed {look : Requester → Option Action} (hl : ∀ who a, look who = some a → s.Allows a)
    {x : Requester × Action} (h : s.roundRobin look = some x) : s.Allows x.2 := by
  obtain ⟨who, -, hw⟩ := List.exists_of_findSome?_eq_some h
  obtain ⟨a, ha, rfl⟩ := Option.map_eq_some_iff.1 hw
  exact hl who a ha

theorem State.keepPointer_allowed {o : Option Action} (ho : ∀ a, o = some a → s.Allows a) {x : Requester × Action}
    (h : some x = o.map s.keepPointer) : s.Allows x.2 := by
  obtain ⟨a, ha, rfl⟩ := Option.map_eq_some_iff.1 h.symm
  exact ho a ha

theorem State.freeWindow_allowed {x : Requester × Action} (h : s.freeWindow = some x) : s.Allows x.2 := by
  have hm := mem_of_firstOf h
  simp only [List.mem_cons, List.not_mem_nil, or_false] at hm
  rcases hm with h | h | h | h | h | h | h
  · exact State.keepPointer_allowed (fun _ => State.refreshWork_allowed) h
  · exact State.keepPointer_allowed (fun _ => State.overdueChoice_allowed) h
  · exact State.keepPointer_allowed (fun _ => State.drainClose_allowed) h
  · exact State.roundRobin_allowed (fun _ _ => State.rowHit_allowed) h.symm
  · exact State.roundRobin_allowed (fun _ _ => State.startAction_allowed) h.symm
  · exact State.keepPointer_allowed (fun _ => State.pullIn_allowed) h
  · exact State.keepPointer_allowed (fun _ => State.idleClose_allowed) h

theorem State.ownerTurn_allowed {a : Action} (h : s.ownerTurn = some a) : s.Allows a := by
  unfold State.ownerTurn at h
  split at h
  · exact State.ownerAction_allowed h
  · exact State.ownerAction_allowed h
  · exact State.refreshWork_allowed h
  · cases h

theorem State.chooseRunning_allowed {x : Requester × Action} (h : s.chooseRunning = some x) : s.Allows x.2 := by
  have hm := mem_of_firstOf h
  simp only [List.mem_cons, List.not_mem_nil, or_false] at hm
  rcases hm with h | h | h | h
  · exact State.keepPointer_allowed (fun _ => State.criticalWork_allowed) h
  · exact State.keepPointer_allowed (fun _ => State.closePendingClose_allowed) h
  · exact State.keepPointer_allowed (fun _ => State.ownerTurn_allowed) h
  · exact State.freeWindow_allowed h.symm

theorem State.chooseInit_allowed (hs : s.mode.sched = .init) {a : Action} (h : s.chooseInit = some a) : s.Allows a := by
  unfold State.chooseInit at h
  split at h
  · obtain rfl := Option.some.inj h
    exact hs
  · dsimp only at h
    split_ifs at h with hr
    obtain rfl := Option.some.inj h
    exact State.refreshable_isClosed hr
  · cases h
  · cases h

/-- Whatever a decision chooses, the bank and the queues grant. -/
theorem State.choose_allowed {x : Requester × Action} (h : s.choose = some x) : s.Allows x.2 := by
  unfold State.choose at h
  split at h
  · cases h
  next hs => exact State.keepPointer_allowed (fun _ => State.chooseInit_allowed hs) h.symm
  · exact State.chooseRunning_allowed h

/-! ### A window -/

theorem Bank.isOpen_of_isClosed {k : Bank} (h : k.isClosed = true) : k.isOpen = false := by
  unfold Bank.isClosed at h
  split at h
  next hs => simp [Bank.isOpen, hs]
  next => cases h

theorem Bank.pins_of_closeAllowed {k : Bank} (h : k.closeAllowed = true) : k.pins = 0 := by
  simp only [Bank.closeAllowed, Bool.and_eq_true, beq_iff_eq] at h
  obtain ⟨⟨⟨-, hpins⟩, -⟩, -⟩ := h
  exact hpins

/-- OPEN (R74). -/
theorem State.PinsSound.issueOpen (h : s.PinsSound) {b : BankId} (hb : (s.banks.get b).isClosed = true)
    (row : Fin 2048) : (s.issueOpen b row).PinsSound := by
  have hm : (s.modBank b fun k => { k with
      state := .opening row (s.translate b row) s.runPage.openDelay, rowMin := some s.runPage.rowMin }).PinsSound :=
    h.modBank_of_not_open (Bank.isOpen_of_isClosed hb) rfl
  exact hm.congr rfl

/-- CLOSE (R76, R81). -/
theorem State.PinsSound.issueClose (h : s.PinsSound) {b : BankId} (hb : (s.banks.get b).closeAllowed = true) :
    (s.issueClose b).PinsSound := by
  have hm : (s.modBank b fun k => { k with
      state := .closing s.runPage.closeDelay, closePending := false }).PinsSound :=
    h.modBank b rfl fun hp => absurd (Bank.pins_of_closeAllowed hb) hp
  exact hm.congr rfl

/-- The bank at any REFRESH (R77). -/
theorem State.PinsSound.beginRefresh (h : s.PinsSound) {b : BankId} (hb : (s.banks.get b).isClosed = true) :
    (s.beginRefresh b).PinsSound := by
  have hm : (s.modBank b fun k => { k with state := .refreshing s.runPage.refreshTime }).PinsSound :=
    h.modBank_of_not_open (Bank.isOpen_of_isClosed hb) rfl
  exact hm.congr rfl

theorem State.PinsSound.issueRefresh (h : s.PinsSound) {b : BankId} (hb : (s.banks.get b).isClosed = true) :
    (s.issueRefresh b).PinsSound :=
  (h.beginRefresh hb).congr (State.retirementCheck_pinBook ..)

theorem State.PinsSound.issueConditioning (h : s.PinsSound) {b : BankId} (hb : (s.banks.get b).isClosed = true) :
    (s.issueConditioning b).PinsSound :=
  (h.beginRefresh hb).congr rfl

/-- CLOSE-ALL takes every pin, and no record is outstanding (R78, R56). -/
theorem State.PinsSound.issueCloseAll (h : s.PinsSound) (hq : s.outstanding = []) : s.issueCloseAll.PinsSound where
  pins b := by
    have ho : s.issueCloseAll.outstanding = [] := hq
    rw [ho]
    exact .of_none (by simp [State.issueCloseAll, Bank.closeAll]) (by simp)
  tags := h.tags

theorem State.PinsSound.issue (h : s.PinsSound) (hi : s.IdleStatesEmpty) {a : Action} (ha : s.Allows a)
    (drive : Option BurstData) : (s.issue drive a).PinsSound := by
  cases a with
  | closeAll => exact h.issueCloseAll (hi (.inr ha))
  | condition b => exact h.issueConditioning ha
  | refresh b => exact h.issueRefresh ha
  | close b => exact h.issueClose ha
  | openFor b row => exact h.issueOpen ha row
  | burst who r => exact h.issueBurst ha.1 ha.2 drive

theorem State.PinsSound.decide (h : s.PinsSound) (hi : s.IdleStatesEmpty) (drive : Option BurstData) :
    (s.decide drive).PinsSound := by
  unfold State.decide
  split
  · exact h.congr rfl
  next x hx => exact (h.issue hi (State.choose_allowed hx) drive).congr rfl

/-- A window passes at the timers: an OPEN bank stays OPEN (R72). -/
theorem Bank.tick_state_of_isOpen {k : Bank} (h : k.isOpen = true) : k.tick.state = k.state := by
  unfold Bank.isOpen at h
  split at h
  next hs => simp [Bank.tick, hs]
  next => cases h

theorem State.PinsSound.endWindow (h : s.PinsSound) : s.endWindow.PinsSound := by
  have htick : ∀ b, s.endWindow.banks.get b = (s.banks.get b).tick := get_map _ _
  refine h.of_banks ?_ (fun b => ?_) (fun b hb => ?_)
  · funext who
    cases who <;> simp [State.queueOf, State.endWindow, Port.tick]
  · rw [htick]; rfl
  · rw [htick, Bank.tick_state_of_isOpen ((h.pins b).opened hb)]

theorem State.IdleStatesEmpty.of_eq (h : s.IdleStatesEmpty) (hq : t.queueOf = s.queueOf) (hm : t.mode = s.mode) :
    t.IdleStatesEmpty := by
  unfold State.IdleStatesEmpty
  rw [hm, State.outstanding_congr hq]
  exact h

theorem State.PinsSound.window (h : s.PinsSound) (hi : s.IdleStatesEmpty) (ready : BitVec 4)
    (drive : Option BurstData) : (s.window ready drive).PinsSound := by
  have hbook : (s.beginWindow.sampleReady ready).pinBook = s.pinBook := by simp
  have hmode : (s.beginWindow.sampleReady ready).mode = s.mode := by rw [s.beginWindow_eq]; rfl
  have hwheel := ((h.congr hbook).decide (hi.of_eq (State.pinBook_eq hbook).1 hmode) drive).advanceWheel
  have hgrown := hwheel.of_keys (t := State.mapRecords _ Record.grow)
    (fun who => by
      have hkey : Record.pinKey ∘ Record.grow = Record.pinKey := funext Record.grow_pinKey
      cases who <;> simp [State.queueOf, hkey])
    (State.mapRecords_banks ..)
  have hstalled := foldl_induct State.PinsSound State.stallPort (fun _ p hs => hs.stallPort p) allPorts _ hgrown
  unfold State.window
  exact (hstalled.congr (State.settleDrain_pinBook _)).takeDue.endWindow

end Sys2Proof.Machine
end

section
/-! PROOFS. The messages, the lines and the host's registers, and the pin law (R71); then every command. -/

namespace Sys2Proof.Machine

variable {s t : State}

/-! ### Records that are filed (R38, R39) -/

/-- A record that joins a queue QUEUED pins no bank. -/
theorem State.PinLaw.of_filed (h : s.PinLaw) {who : Requester} {r : Record} (hr : r.isActive = false)
    (hq : t.queueOf who = s.queueOf who ++ [r]) (hne : ∀ w, w ≠ who → t.queueOf w = s.queueOf w)
    (hb : t.banks = s.banks) : t.PinLaw := by
  have hp : t.outstanding.Perm ([r] ++ s.outstanding) :=
    State.outstanding_perm (hq ▸ List.perm_append_comm) fun w hw => (hne w hw).symm
  refine State.pinLaw_iff.2 fun b => (?_ : (t.banks.get b).PinnedBy b ([r] ++ s.outstanding)).perm hp.symm
  have hk := State.pinLaw_iff.1 h b
  rw [hb]
  exact ⟨by simp [hk.count, hr], hk.opened, fun q hm ha => by
    rcases List.mem_cons.1 hm with rfl | hm
    · simp [hr] at ha
    · exact hk.row q hm ha⟩

theorem State.PinLaw.congr (h : s.PinLaw) (ht : t.pinBook = s.pinBook) : t.PinLaw := by
  obtain ⟨hq, hb⟩ := State.pinBook_eq ht
  unfold State.PinLaw State.activeOn
  rw [State.outstanding_congr hq, hb]
  exact h

theorem State.PinLaw.fileClient (h : s.PinLaw) (p : PortId) (r : RequestFields) (i : Fin 16) :
    (s.fileClient p r i).PinLaw := by
  have hfiled : ((s.takeStamp i).modPort p fun k =>
      { k with queue := k.queue ++ [clientRecord p r i s.stamp] }).PinLaw := by
    refine h.of_filed (who := .port p) (r := clientRecord p r i s.stamp) rfl ?_ (fun w hw => ?_) rfl
    · simp [State.queueOf]
    · exact State.modPort_queueOf_of_ne _ hw
  exact hfiled.congr (State.notify_pinBook ..)

theorem State.postDenied_pinBook (s : State) (who : Requester) (g : Fin 16) (o : Source) (reason : Reason) :
    (s.postDenied who g o reason).pinBook = s.pinBook := State.post_pinBook ..

theorem State.failSlot_pinBook (s : State) (k : SlotId) (reason : Reason) :
    (s.failSlot k reason).pinBook = s.pinBook := rfl

theorem State.PinLaw.admitClient (h : s.PinLaw) (p : PortId) (r : RequestFields) : (s.admitClient p r).PinLaw := by
  unfold State.admitClient
  split
  · exact h.congr (State.notify_pinBook ..)
  · split
    · exact h.fileClient p r _
    all_goals exact h.congr ((State.notify_pinBook ..).trans (State.postDenied_pinBook ..))

theorem State.PinLaw.admitHost (h : s.PinLaw) (k : SlotId) (kind : Kind) : (s.admitHost k kind).PinLaw := by
  unfold State.admitHost
  dsimp only
  split
  · exact h.congr (State.failSlot_pinBook ..)
  · split
    · refine h.of_filed (who := .host) (r := hostRecord k kind _ _ _ s.stamp) rfl rfl (fun w hw => ?_) rfl
      cases w with
      | port p => rfl
      | host => exact absurd rfl hw
    all_goals exact h.congr ((State.failSlot_pinBook ..).trans (State.postDenied_pinBook ..))

theorem State.PinLaw.go (h : s.PinLaw) (k : SlotId) (kind : Kind) : (s.go k kind).PinLaw := by
  unfold State.go
  split
  · exact (State.PinLaw.admitHost (h.congr (State.modSlot_pinBook ..)) k kind).congr (State.setResult_pinBook ..)
  · exact h.congr rfl

/-! ### Inbound frames (R15 to R18) -/

theorem State.markTaken_pinBook (s : State) (p : PortId) : (s.markTaken p).pinBook = s.pinBook :=
  s.modPort_pinBook p rfl

theorem State.discardFrame_pinBook (s : State) (p : PortId) (code : Byte) :
    (s.discardFrame p code).pinBook = s.pinBook :=
  State.post_pinBook ..

theorem State.PinsSound.cancelTag (h : s.PinsSound) (p : PortId) (g : Fin 16) : (s.cancelTag p g).PinsSound := by
  unfold State.cancelTag
  split
  next r hr =>
    have hg : r.tag = g := by simpa using List.find?_some hr
    exact (h.finishClient (hg ▸ hr) rfl rfl .cancelled).congr (State.settleDrain_pinBook _)
  · exact h

theorem State.PinsSound.takeMessage (h : s.PinsSound) (p : PortId) (enabled : Bool) (f : Frame) :
    (s.takeMessage p enabled f).PinLaw := by
  have hm := h.congr (s.markTaken_pinBook p)
  cases f with
  | request r =>
    simp only [State.takeMessage]
    split
    · exact hm.pinLaw.admitClient p r
    · exact hm.pinLaw.congr (State.notify_pinBook ..)
  | cancel g =>
    simp only [State.takeMessage]
    split
    · exact (hm.cancelTag p g).pinLaw
    · exact hm.pinLaw
  | unknown code => exact hm.pinLaw.congr (State.discardFrame_pinBook ..)
  | short code => exact h.pinLaw.congr (State.discardFrame_pinBook ..)

theorem State.PinsSound.takeFrame (h : s.PinsSound) (p : PortId) (frame : List Byte) :
    (s.takeFrame p frame).PinLaw := by
  have hd := h.pinLaw.congr (s.discardFrame_pinBook p (frameCode frame))
  unfold State.takeFrame
  split
  · exact h.pinLaw
  all_goals
    split
    · exact hd
    · exact h.takeMessage p _ _

theorem State.PinsSound.receive (h : s.PinsSound) (p : PortId) (a : Arrival) : (s.receive p a).PinLaw := by
  have ha : (s.atArrival a).PinsSound := h.congr (s.inWindow_pinBook a.inNextWindow)
  unfold State.receive
  split
  · exact ha.pinLaw
  · exact ha.takeFrame p a.bytes

/-! ### Ports (R28 to R32) -/

theorem State.PinsSound.disablePort (h : s.PinsSound) (p : PortId) : (s.disablePort p).PinsSound := by
  unfold State.disablePort
  split
  · have hf : (s.flushPort p).PinsSound := h.emptyPort p _
    exact (hf.congr (State.modPort_pinBook _ p rfl)).congr (State.settleDrain_pinBook _)
  · exact h.congr (State.modPort_pinBook s p rfl)

theorem State.PinsSound.assertPrst (h : s.PinsSound) (p : PortId) : (s.assertPrst p).PinsSound := by
  unfold State.assertPrst
  split
  · exact h
  · have hf : (s.silencePort p).PinsSound := h.emptyPort p _
    exact (hf.congr (State.modPort_pinBook _ p rfl)).congr (State.settleDrain_pinBook _)

theorem State.PinsSound.deassertPrst (h : s.PinsSound) (p : PortId) : (s.deassertPrst p).PinsSound :=
  h.congr (s.modPort_pinBook p rfl)

theorem State.PinsSound.portControlWrite (h : s.PinsSound) (p : PortId) (action : Nat) :
    (s.portControlWrite p action).PinsSound := by
  have hs : (s.selectPort p).PinsSound := h.congr rfl
  unfold State.portControlWrite
  split
  · exact hs.congr (State.modPort_pinBook _ p rfl)
  · exact hs.disablePort p
  · exact hs

/-! ### Resets (R149 to R151, R175) -/

/-- Where the queues are emptied, no record is ACTIVE. -/
theorem State.PinLaw.of_empty (hb : ∀ b, (s.banks.get b).pins = 0) (hq : ∀ who, s.queueOf who = []) : s.PinLaw :=
  State.pinLaw_iff.2 fun b => .of_none (hb b) fun r hr => by
    obtain ⟨who, hw⟩ := State.mem_outstanding.1 hr
    simp [hq who] at hw

theorem State.powerOn_pinLaw (s : State) (asserted : Bool) : (s.powerOn asserted).PinLaw := by
  refine .of_empty (fun b => ?_) fun who => ?_
  · simp [State.powerOn, State.reset, Bank.powerOn]
  · cases who with
    | port p => simp [State.queueOf, State.powerOn, Port.powerOn]
    | host => rfl

theorem State.PinLaw.resetLine (h : s.PinLaw) (asserted : Bool) : (s.resetLine asserted).PinLaw := by
  unfold State.resetLine
  split
  · exact s.powerOn_pinLaw true
  · split
    · exact s.powerOn_pinLaw false
    · exact h

theorem State.softResetIdle_pinLaw (s : State) : s.softResetIdle.PinLaw := by
  refine .of_empty (fun b => ?_) fun who => ?_
  · simp [State.softResetIdle, Bank.powerOn]
  · cases who with
    | port p => simp [State.queueOf, State.softResetIdle]
    | host => rfl

/-- SOFT_RESET in a running state flushes every queue, and marks the banks that hold a row open (R151, R88). -/
theorem State.PinsSound.softResetRunning (h : s.PinsSound) : s.softResetRunning.PinsSound := by
  have hports : (allPorts.foldl State.flushPort s).PinsSound :=
    foldl_induct State.PinsSound State.flushPort (fun _ p hs => hs.emptyPort p _) _ _ h
  have hmark : ∀ k : Bank, k.markClosePending.pins = k.pins ∧ k.markClosePending.state = k.state := by
    intro k
    unfold Bank.markClosePending
    split <;> exact ⟨rfl, rfl⟩
  have hflushed := hports.flushHost
  unfold State.softResetRunning
  generalize (allPorts.foldl State.flushPort s).flushHost = u at hflushed ⊢
  refine hflushed.of_banks rfl (fun b => ?_) (fun b _ => ?_) <;> rw [get_map]
  · exact (hmark _).1
  · exact (hmark _).2

theorem State.PinsSound.softReset (h : s.PinsSound) : s.softReset.PinLaw := by
  unfold State.softReset
  split
  · exact s.softResetIdle_pinLaw.congr (State.setResult_pinBook ..)
  · exact s.softResetIdle_pinLaw.congr (State.setResult_pinBook ..)
  · exact h.softResetRunning.pinLaw.congr (State.setResult_pinBook ..)

/-! ### The host's other commands leave the queues and the banks as they are -/

theorem State.start_pinBook (s : State) : (State.start s).pinBook = s.pinBook := by
  unfold State.start; split <;> rfl

theorem State.hold_pinBook (s : State) : (State.hold s).pinBook = s.pinBook := by
  unfold State.hold; split <;> simp

theorem State.resume_pinBook (s : State) : (State.resume s).pinBook = s.pinBook := by
  unfold State.resume; split <;> rfl

theorem State.beginSwitch_pinBook (s : State) (ret : ReturnState) : (s.beginSwitch ret).pinBook = s.pinBook := by
  unfold State.beginSwitch; split <;> rfl

theorem State.switchStopped_pinBook (s : State) : s.switchStopped.pinBook = s.pinBook := by
  unfold State.switchStopped; split
  · exact (State.post_pinBook ..).trans s.flipPages_pinBook
  · rfl

theorem State.switch_pinBook (s : State) : s.switch.pinBook = s.pinBook := by
  unfold State.switch; split
  · exact s.switchStopped_pinBook
  · rfl
  · exact s.beginSwitch_pinBook .run
  · exact s.beginSwitch_pinBook .held
  · rfl
  · rfl

theorem State.pageCopy_pinBook (s : State) : (State.pageCopy s).pinBook = s.pinBook := by
  unfold State.pageCopy; split <;> rfl

theorem State.commitRegion_pinBook (s : State) (i : Fin 16) (e : Region) :
    (s.commitRegion i e).pinBook = s.pinBook := by
  unfold State.commitRegion
  dsimp only
  refine (foldl_keeps State.pinBook _ (fun u b => ?_) _ _).trans rfl
  split
  · exact u.retirementCheck_pinBook b
  · rfl

theorem State.writeRegion_pinBook (s : State) : s.writeRegion.pinBook = s.pinBook := by
  unfold State.writeRegion
  dsimp only
  split
  · split
    · rfl
    · split_ifs
      · rfl
      · rfl
      · rfl
      · exact s.commitRegion_pinBook ..
  · rfl

theorem State.editRows_pinBook (s : State) (i : Fin 8) (e : RemapEntry) : (s.editRows i e).pinBook = s.pinBook := by
  rw [s.editRows_eq]; rfl

theorem State.writeRemap_pinBook (s : State) : s.writeRemap.pinBook = s.pinBook := by
  unfold State.writeRemap
  dsimp only
  split
  · rfl
  · split
    · split
      · rfl
      · exact s.editRows_pinBook ..
    · rfl

theorem State.writePage_pinBook (s : State) : s.writePage.pinBook = s.pinBook := by
  unfold State.writePage
  split
  · rfl
  · split
    · rfl
    · split <;> rfl

theorem State.tableWrite_pinBook (s : State) : s.tableWrite.pinBook = s.pinBook := by
  unfold State.tableWrite
  split_ifs
  · exact s.writeRegion_pinBook
  · exact s.writeRemap_pinBook
  · exact s.writePage_pinBook

theorem State.eventPop_pinBook (s : State) : s.eventPop.pinBook = s.pinBook := by
  unfold State.eventPop; split <;> rfl

theorem State.ackSlot_pinBook (s : State) (k : SlotId) : (s.ackSlot k).pinBook = s.pinBook := by
  unfold State.ackSlot; split <;> rfl

/-! ### The host's registers -/

theorem State.PinsSound.commandWrite (h : s.PinsSound) (code : Nat) : (s.commandWrite code).PinLaw := by
  unfold State.commandWrite
  split
  · exact h.pinLaw.congr s.start_pinBook
  · exact h.pinLaw.congr s.hold_pinBook
  · exact h.pinLaw.congr s.resume_pinBook
  · exact h.pinLaw.congr s.switch_pinBook
  · exact h.pinLaw.congr s.pageCopy_pinBook
  · exact h.softReset
  · exact h.pinLaw.congr s.tableWrite_pinBook
  · exact h.pinLaw.congr s.eventPop_pinBook
  · exact h.pinLaw.congr rfl

theorem State.PinLaw.slotControlWrite (h : s.PinLaw) (k : SlotId) (command : Nat) :
    (s.slotControlWrite k command).PinLaw := by
  unfold State.slotControlWrite
  split
  · exact h.go k .read
  · exact h.go k .write
  · exact h.congr (s.ackSlot_pinBook k)
  · exact h

theorem State.PinsSound.hostWrite (h : s.PinsSound) (a : BitVec 5) (w : Word) : (s.hostWrite a w).PinLaw := by
  have hl := h.pinLaw
  unfold State.hostWrite
  split
  · exact h.commandWrite _
  · exact (h.portControlWrite _ _).pinLaw
  iterate 8 exact hl.congr rfl
  · dsimp only
    split
    · split
      · exact hl.congr rfl
      · exact hl.congr rfl
      · exact hl.congr rfl
      · exact hl.slotControlWrite _ _
    · exact hl

/-! ### Every command -/

theorem State.PinsSound.after (h : s.PinsSound) (hi : s.IdleStatesEmpty) (c : Instr) : (s.after c).PinLaw := by
  have hl := h.pinLaw
  have hw : ∀ n, (s.inWindow n).PinsSound := fun n => h.congr (s.inWindow_pinBook n)
  cases c with
  | powerOnReset asserted => exact hl.resetLine asserted
  | prstAssert p => exact (h.assertPrst p).pinLaw
  | prstDeassert p => exact (h.deassertPrst p).pinLaw
  | start => exact hl.congr s.start_pinBook
  | hold => exact hl.congr s.hold_pinBook
  | resume => exact hl.congr s.resume_pinBook
  | switch n => exact (hw n).pinLaw.congr (State.switch_pinBook _)
  | pageCopy => exact hl.congr s.pageCopy_pinBook
  | softReset n => exact (hw n).softReset
  | tableWriteRegion => exact hl.congr s.tableWrite_pinBook
  | tableWriteRemap => exact hl.congr s.tableWrite_pinBook
  | tableWritePage => exact hl.congr s.tableWrite_pinBook
  | eventPop => exact hl.congr s.eventPop_pinBook
  | unknownCommand code => exact h.commandWrite code.toNat
  | goRead k => exact hl.go k .read
  | goWrite k => exact hl.go k .write
  | ack k => exact hl.congr (s.ackSlot_pinBook k)
  | portEnable p => exact (h.portControlWrite p 1).pinLaw
  | portDisable p n => exact ((hw n).portControlWrite p 2).pinLaw
  | portSelect p => exact (h.portControlWrite p 0).pinLaw
  | bankStatusSelect b view => exact hl.congr rfl
  | interruptEnableWrite enables => exact hl.congr rfl
  | eventEnableWrite mask => exact hl.congr rfl
  | registerWrite a w n => exact (hw n).hostWrite a w
  | request p frame => exact h.receive p frame
  | cancel p frame => exact h.receive p frame
  | discardedFrame p frame => exact h.receive p frame
  | windowDecision ready drive => exact (h.window hi ready drive).pinLaw
  | openDelayExpiry b => exact (h.openDelayExpiry b).pinLaw
  | closeDelayExpiry b => exact (h.closeDelayExpiry b).pinLaw
  | refreshTimeExpiry b => exact (h.refreshTimeExpiry b).pinLaw
  | rowMinExpiry b => exact (h.rowMinExpiry b).pinLaw
  | writeRecoveryExpiry b => exact (h.writeRecoveryExpiry b).pinLaw
  | refill => exact hl.congr s.refill_pinBook
  | intervalExpiry => exact h.intervalExpiry.pinLaw
  | stallAbort p g => exact (h.stallAbort p g).pinLaw
  | drainComplete => exact hl.congr s.settleDrain_pinBook
  | flip => exact h.testWrap.pinLaw
  | conditioningEnd => exact h.conditioningEnd.pinLaw

/-- The queue of commands is no part of the law. -/
theorem State.PinsSound.pending (h : s.PinsSound) (q : List Instr) : { s with pending := q }.PinsSound := h.congr rfl

end Sys2Proof.Machine

open Sys2Proof Sys2Proof.Machine

/-- Settles O13: every command that runs on a state with the pin law, with distinct tags in its queues and with empty
queues in STOPPED and INIT, keeps the pin law. -/
theorem stepKeepsPinLaw : Obligations.StepKeepsPinLaw := by
  intro s t hq hh hp hstep
  have hs : s.PinsSound := hp.pinsSound hq hh
  rcases step_cases hstep with rfl | ⟨c, rest, -, rfl | rfl⟩
  · exact hp
  · exact (hs.pending rest).pinLaw
  · exact (hs.pending rest).after hq.2 c

end

section
/-! PROOFS. The event queue: what a post does against the mask, the room and the newest record (R154, R155), what
EVENT_POP removes (R157), and the code that names no command (R165). -/

namespace Sys2Proof.Machine

/-! ### The room and the newest record (R155) -/

/-- With room for one more below the sixteenth place, the post is stored as the newest. -/
theorem storePost_of_room {q : List Event} (h : q.length < 15) (e : Event) : storePost q e = q ++ [e] := if_pos h

/-- Where OVERFLOW is the newest record and there is no room, the post is counted there, up to 255. -/
theorem storePost_on_overflow {older : List Event} {n : Nat} (hfull : 14 ≤ older.length) (hn : n ≤ 255) (e : Event) :
    storePost (older ++ [.overflow n]) e = older ++ [.overflow (min (n + 1) 255)] := by
  have hroom : ¬(older ++ [Event.overflow n]).length < 15 := by rw [List.length_append, List.length_singleton]; omega
  have hcount : (if n < 255 then n + 1 else n) = min (n + 1) 255 := by split <;> omega
  rw [storePost, if_neg hroom, List.getLast?_concat, List.dropLast_concat, ← hcount]

/-- Where the queue is full and its newest record is not OVERFLOW, an OVERFLOW of count 1 becomes the newest. -/
theorem storePost_begins_overflow {q : List Event} (hfull : 15 ≤ q.length)
    (hlast : ∀ n, q.getLast? ≠ some (.overflow n)) (e : Event) : storePost q e = q ++ [.overflow 1] := by
  rw [storePost, if_neg (Nat.not_lt.mpr hfull)]
  split
  next n h => exact absurd h (hlast n)
  next => rfl

/-! ### The mask (R154) -/

section Post

variable {s : State} {k : EventKind}

theorem State.post_of_disabled (h : s.events.mask.getLsbD (k.code - 1) = false) (o : Source) (g : Option (Fin 16))
    (d : Nat) : s.post k o g d = s := by
  rw [State.post, h]; rfl

theorem State.post_records_of_enabled (h : s.events.mask.getLsbD (k.code - 1) = true) (o : Source)
    (g : Option (Fin 16)) (d : Nat) :
    (s.post k o g d).events.records = storePost s.events.records (.report k o g d) := by
  rw [State.post_events, if_pos h]

end Post

/-- A post changes the event queue's records alone: the mask stays. -/
theorem State.post_eq_records (s : State) (k : EventKind) (o : Source) (g : Option (Fin 16)) (d : Nat) :
    s.post k o g d = { s with events := { s.events with records := (s.post k o g d).events.records } } := by
  unfold State.post; split <;> rfl

/-! ### EVENT_POP and the code that names no command -/

theorem State.eventPop_of_cons {s : State} {e : Event} {rest : List Event} (h : s.events.records = e :: rest) :
    s.eventPop = { s with events := { s.events with records := rest } }.setResult .ok := by
  rw [State.eventPop, h]

theorem State.eventPop_of_nil {s : State} (h : s.events.records = []) : s.eventPop = s.setResult .nothing := by
  rw [State.eventPop, h]

theorem State.commandWrite_of_unnamed (s : State) {code : BitVec 4} (h : namesCommand code = false) :
    s.commandWrite code.toNat = s.setResult .badValue := by
  have hcode : ¬(1 ≤ code.toNat ∧ code.toNat ≤ 8) := by simpa [namesCommand] using h
  unfold State.commandWrite
  split
  case h_9 => rfl
  all_goals omega

end Sys2Proof.Machine

open Sys2Proof Sys2Proof.Machine

/-- Settles O25: the mask decides whether a post is judged, then the room and the newest record decide what it becomes;
the law of the queue bounds the count that a further post raises. -/
theorem postFollowsMaskAndRoom : Obligations.PostFollowsMaskAndRoom := by
  intro s kind source tag detail hs
  refine ⟨s.post_eq_records .., fun hoff => State.post_of_disabled hoff .., fun hon => ?_⟩
  rw [State.post_records_of_enabled hon]
  refine ⟨fun hroom => storePost_of_room hroom _, fun older n hfull hq => ?_, fun hlen hlast => ?_⟩
  · have hn : n ≤ 255 := (hs.counts n (by simp [hq])).2
    rw [hq]
    exact storePost_on_overflow hfull hn _
  · exact storePost_begins_overflow hlen.ge hlast _

/-- Settles O24, by the queue's two forms and the codes that name no command. -/
theorem eventPopAndUnknownCommand : Obligations.EventPopAndUnknownCommand := by
  intro s hr
  refine ⟨fun e rest hq => ?_, fun hq => ?_, fun code hcode => ?_⟩
  · rw [exec_eventPop hr, State.eventPop_of_cons hq]; rfl
  · rw [exec_eventPop hr, State.eventPop_of_nil hq]; rfl
  · rw [exec_unknownCommand hr, s.commandWrite_of_unnamed hcode]; rfl

end

section
/-! PROOFS. The INT line and its two sources: the event queue's level (R158) and the finished slots (R172). -/

namespace Sys2Proof.Machine

theorem mem_allSlots (k : SlotId) : k ∈ allSlots := by revert k; decide

theorem Slot.complete_iff (k : Slot) : k.complete = true ↔ k.state = .done ∨ ∃ reason, k.state = .failed reason := by
  unfold Slot.complete
  cases k.state <;> simp

theorem State.eventsPresent_iff (s : State) : s.eventsPresent = true ↔ s.events.records ≠ [] := by
  simp [State.eventsPresent]

/-- Out of reset the line is the disjunction of its two sources: the factor that RESET contributes is true (R172, R175). -/
theorem State.int_of_released {s : State} (h : s.Released) :
    s.int = (s.eventsPresent ||
      allSlots.any fun k => (s.host.slots.get k).complete && s.host.slotEnables.getLsbD k.val) := by
  rw [State.int, show s.resetAsserted = false from h, Bool.not_false, Bool.true_and]

/-- Some slot of the list of all slots has a property exactly where some slot has it. -/
theorem any_allSlots_iff (p : SlotId → Bool) : allSlots.any p = true ↔ ∃ k, p k = true := by
  simp [List.any_eq_true, mem_allSlots]

end Sys2Proof.Machine

open Sys2Proof Sys2Proof.Machine

/-- Settles O26: out of reset INT is the disjunction of the queue's level and of the slots' requests, each of which is
what its name says. -/
theorem interruptLineFollowsItsSources : Obligations.InterruptLineFollowsItsSources := by
  intro s hr
  rw [State.int_of_released hr, Bool.or_eq_true, State.eventsPresent_iff, any_allSlots_iff]
  simp only [Bool.and_eq_true, Slot.complete_iff]

end

section
/-! PROOFS. The order of a decision (6.4, 6.5): each search of the arbiter finds what the rule of its kind of work asks
for, and nothing where no such work exists. -/

-- One proof after another: a thread for each would reserve more memory than the check allows.
set_option Elab.async false

namespace Sys2Proof.Machine

/-! ### A search and what it looks for -/

/-- The search `o` finds something with `p`, and finds nothing only where there is no such thing. -/
def Finds {α : Type} (o : Option α) (p : α → Prop) : Prop := (∀ a, o = some a → p a) ∧ (o = none → ∀ a, ¬p a)

namespace Finds

variable {α β : Type} {o o' : Option α} {p q : α → Prop}

theorem congr (h : Finds o p) (hp : ∀ a, p a ↔ q a) : Finds o q :=
  ⟨fun a ha => (hp a).1 (h.1 a ha), fun hn a hq => h.2 hn a ((hp a).2 hq)⟩

/-- One search after the other looks for the work of the first, or that of the second where the first has none. -/
theorem orElse (h : Finds o p) (h' : Finds o' q) : Finds (o.or o') (OrElse p q) := by
  cases o with
  | some a => exact ⟨fun b hb => .inl (h.1 b hb), by simp⟩
  | none =>
    have hp := h.2 rfl
    exact ⟨fun b hb => .inr ⟨hp, h'.1 b hb⟩, fun hn b hb => hb.elim (hp b) fun hq => h'.2 hn b hq.2⟩

theorem map {f : α → β} (h : Finds o p) : Finds (o.map f) fun b => ∃ a, p a ∧ b = f a := by
  cases o with
  | some a => exact ⟨fun b hb => ⟨a, h.1 a rfl, (Option.some.inj hb).symm⟩, by simp⟩
  | none => exact ⟨by simp, fun _ b ⟨a, ha, _⟩ => h.2 rfl a ha⟩

theorem bind {f : α → Option β} {w : α → β → Prop} (h : Finds o p) (hu : ∀ a b, p a → p b → a = b)
    (hf : ∀ a, Finds (f a) (w a)) : Finds (o.bind f) fun b => ∃ a, p a ∧ w a b := by
  cases o with
  | some a =>
    refine ⟨fun b hb => ⟨a, h.1 a rfl, (hf a).1 b hb⟩, fun hn b ⟨c, hc, hw⟩ => ?_⟩
    obtain rfl := hu a c (h.1 a rfl) hc
    exact (hf a).2 hn b hw
  | none => exact ⟨by simp, fun _ b ⟨a, ha, _⟩ => h.2 rfl a ha⟩

/-- The first in a list with a property that all candidates are in the list. -/
theorem find? {l : List α} {f : α → Bool} (hp : ∀ a, p a ↔ f a = true) (hl : ∀ a, a ∈ l) : Finds (l.find? f) p :=
  ⟨fun _ ha => (hp _).2 (List.find?_some ha), fun hn a ha => List.find?_eq_none.1 hn a (hl a) ((hp a).1 ha)⟩

end Finds

theorem firstOf_cons {α : Type} (o : Option α) (l : List (Option α)) : firstOf (o :: l) = o.or (firstOf l) := by
  cases o <;> simp [firstOf]

theorem firstOf_nil {α : Type} : firstOf ([] : List (Option α)) = none := rfl

theorem firstOf_single {α : Type} (o : Option α) : firstOf [o] = o := by cases o <;> rfl

theorem mem_allBanks (b : BankId) : b ∈ allBanks := by revert b; decide

theorem mem_allRequesters (who : Requester) : who ∈ allRequesters := by
  cases who with
  | port p => revert p; decide
  | host => decide

/-- What a search finds first in a list in rising order of `place` has the lowest place. -/
theorem findSome?_first {α β : Type} {l : List β} {place : β → Nat} (hl : l.Pairwise fun b c => place b < place c)
    (hm : ∀ b, b ∈ l) {f : β → Option α} {w : β → α → Prop} (hf : ∀ b, Finds (f b) (w b)) :
    Finds (l.findSome? f) fun a => ∃ b, w b a ∧ ∀ c, place c < place b → ∀ x, ¬w c x := by
  refine ⟨fun a ha => ?_, fun hn a ⟨b, hb, _⟩ => (hf b).2 (List.findSome?_eq_none_iff.1 hn b (hm b)) a hb⟩
  obtain ⟨before, b, after, rfl, hb, hbefore⟩ := List.findSome?_eq_some_iff.1 ha
  refine ⟨b, (hf b).1 a hb, fun c hc => ?_⟩
  obtain ⟨-, hcons, -⟩ := List.pairwise_append.1 hl
  rcases List.mem_append.1 (hm c) with hmem | hmem
  · exact (hf c).2 (hbefore c hmem)
  · rcases List.mem_cons.1 hmem with rfl | hmem
    · exact absurd hc (lt_irrefl _)
    · exact absurd hc ((List.pairwise_cons.1 hcons).1 c hmem).not_gt

/-- What is found first among the banks is the lowest. -/
theorem find?_isLowest {f : BankId → Bool} {q : BankId → Prop} (hq : ∀ b, q b ↔ f b = true) :
    Finds (allBanks.find? f) (IsLowest q) := by
  have hguard : ∀ b, Finds (Option.guard f b) fun a => a = b ∧ q a := fun b =>
    ⟨fun a ha => by simp [Option.guard] at ha; simp [hq, ← ha.2, ha.1], fun hn a ⟨he, ha⟩ => by simp_all [Option.guard]⟩
  rw [List.find?_eq_findSome?_guard]
  refine (findSome?_first (place := Fin.val) (by decide) mem_allBanks hguard).congr fun a => ⟨?_, fun ⟨ha, hlow⟩ => ?_⟩
  · rintro ⟨b, ⟨rfl, ha⟩, hlow⟩
    exact ⟨ha, fun c hc hqc => hlow c hc c ⟨rfl, hqc⟩⟩
  · exact ⟨a, ⟨rfl, ha⟩, fun c hc x ⟨he, hx⟩ => hlow c hc (he ▸ hx)⟩

/-- The same under a condition `c` on the state. -/
theorem find?_isLowest_of {c : Bool} {f : BankId → Bool} {q : BankId → Prop} (hq : ∀ b, q b ↔ f b = true) :
    Finds (allBanks.find? fun b => c && f b) fun b => c = true ∧ IsLowest q b := by
  cases c with
  | true => simpa using find?_isLowest hq
  | false => exact ⟨fun a ha => absurd (List.find?_some ha) (by simp), by simp⟩

theorem IsLowest.unique {q : BankId → Prop} {b c : BankId} (hb : IsLowest q b) (hc : IsLowest q c) : b = c := by
  rcases lt_trichotomy b c with h | h | h
  · exact absurd hb.1 (hc.2 b h)
  · exact h
  · exact absurd hc.1 (hb.2 c h)

variable {s : State}

/-! ### What a bank will take -/

theorem Bank.isClosed_iff {k : Bank} : k.isClosed = true ↔ k.state = .closed := by
  unfold Bank.isClosed; split <;> simp_all

theorem Bank.isOpen_iff {k : Bank} : k.isOpen = true ↔ ∃ row phys, k.state = .opened row phys := by
  unfold Bank.isOpen; split <;> simp_all

theorem Bank.openOn_iff {k : Bank} {row : Fin 2048} : k.openOn row = true ↔ ∃ phys, k.state = .opened row phys := by
  unfold Bank.openOn Bank.isOpen Bank.openRow?
  cases k.state <;> simp

theorem State.canClose_iff (b : BankId) : s.CanClose b ↔ (s.banks.get b).closeAllowed = true := by
  simp only [State.CanClose, Bank.closeAllowed, Bool.and_eq_true, Bank.isOpen_iff, beq_iff_eq, Option.isNone_iff_eq_none,
    and_assoc]

theorem State.canOpen_iff (b : BankId) : s.CanOpen b ↔ s.refreshable b = true := by
  simp only [State.CanOpen, State.refreshable, Bool.and_eq_true, Bank.isClosed_iff, decide_eq_true_eq]

theorem State.not_canClose_of_canOpen {b : BankId} (h : s.CanOpen b) : ¬s.CanClose b := by
  rintro ⟨⟨row, phys, hs⟩, -⟩
  simp [h.1] at hs

theorem State.canBurst_iff (who : Requester) (r : Record) :
    s.CanBurst who r ↔ (s.burstAllowed r.bank r.row && s.readyFor who) = true := by
  have hready : s.readyFor who = true ↔ ∀ p, who = .port p → (s.ports.get p).ready = true := by
    cases who <;> simp [State.readyFor]
  simp only [State.CanBurst, State.burstAllowed, Bool.and_eq_true, Bank.openOn_iff, Bool.not_eq_true', hready,
    decide_eq_true_eq, and_assoc]

/-! ### What a record offers (R97) -/

/-- The burst ranges of two records meet, with a WRITE among the two (R51). -/
theorem hazardFree_iff (older : List Record) (r : Record) :
    hazardFree older r = true ↔
      ∀ q ∈ older, q.bank = r.bank → q.row = r.row → q.firstBurst.val < r.firstBurst.val + r.length →
        r.firstBurst.val < q.firstBurst.val + q.length → q.kind = .read ∧ r.kind = .read := by
  have hkind : ∀ k : Kind, k ≠ .write ↔ k = .read := by rintro (_ | _) <;> simp
  simp only [hazardFree, List.all_eq_true, Bool.not_eq_true', Bool.and_eq_false_iff, Record.overlaps, Bool.or_eq_false_iff,
    beq_eq_false_iff_ne, decide_eq_false_iff_not, hkind]
  refine forall₂_congr fun q _ => ?_
  tauto

theorem State.mayAct_iff (hs : s.mode.sched.running = true) (who : Requester) (older : List Record) (r : Record) :
    s.mayAct who older r = true ↔ s.MayAct who older r := by
  have hstart : ∀ w, s.mode.sched.mayStart w = true ↔ s.mode.sched = .run ∨ w = .host ∧ s.mode.sched = .held := by
    intro w
    cases s.mode.sched <;> simp [SchedState.mayStart]
  have hresume : s.mode.sched.mayResume = true ↔ s.mode.sched ≠ .held := by
    cases hm : s.mode.sched <;> simp_all [SchedState.mayResume, SchedState.running]
  unfold State.mayAct State.MayAct
  cases hst : r.state with
  | queued =>
    rw [← hazardFree_iff]
    cases who <;> simp [State.inLookahead, hstart]
    all_goals tauto
  | active n => simp
  | suspended => simp [hresume, and_comm]

/-- The model's offer of a record is the offer of R97. -/
theorem State.offer_iff (hs : s.mode.sched.running = true) (who : Requester) (older : List Record) (r : Record)
    (o : Offer) : s.offer who older r = some o ↔ s.Offers who older r o := by
  have hact := State.mayAct_iff hs who older r
  have hburst := s.canBurst_iff who r
  have hopen : s.CanOpen r.bank ↔ (s.banks.get r.bank).isClosed = true ∧ 1 ≤ s.credit.count := by
    simp [State.CanOpen, Bank.isClosed_iff]
  have hclose := s.canClose_iff r.bank
  have hon : (∀ phys, (s.banks.get r.bank).state ≠ .opened r.row phys) ↔ (s.banks.get r.bank).openOn r.row = false := by
    rw [← Bool.not_eq_true, Bank.openOn_iff]; simp
  have hexcl : (s.banks.get r.bank).isClosed = true →
      (s.banks.get r.bank).openOn r.row = false ∧ (s.banks.get r.bank).closeAllowed = false := by
    rw [Bank.isClosed_iff]
    intro h
    simp [Bank.openOn, Bank.closeAllowed, Bank.isOpen, h]
  have hallow : s.burstAllowed r.bank r.row = true → (s.banks.get r.bank).openOn r.row = true := by
    simp only [State.burstAllowed, Bool.and_eq_true]
    exact fun h => h.1.1
  unfold State.offer
  dsimp only
  cases o <;> simp only [State.Offers, ← hact, hburst, hopen, hclose, hon] <;> split_ifs <;> simp_all

/-- The first that a search finds among the offers of a queue: its record stands in the queue, and no record ahead of it
has an offer that the search looks for. -/
theorem State.offersFrom_finds {f : Record × Offer → Bool} (who : Requester) (older l : List Record) :
    Finds ((s.offersFrom who older l).find? f) fun x => ∃ pre post, l = pre ++ x.1 :: post ∧
      s.offer who (older ++ pre) x.1 = some x.2 ∧ f x = true ∧
      ∀ before y after o, pre = before ++ y :: after → s.offer who (older ++ before) y = some o → f (y, o) = false := by
  induction l generalizing older with
  | nil => exact ⟨by simp [State.offersFrom], by simp⟩
  | cons r rest ih =>
    have hrest := ih (older ++ [r])
    -- The search goes on behind `r` where `r` has no offer that it looks for.
    have hskip : (∀ o, s.offer who older r = some o → f (r, o) = false) →
        Finds ((s.offersFrom who (older ++ [r]) rest).find? f) fun x => ∃ pre post, r :: rest = pre ++ x.1 :: post ∧
          s.offer who (older ++ pre) x.1 = some x.2 ∧ f x = true ∧
          ∀ before y after o, pre = before ++ y :: after → s.offer who (older ++ before) y = some o → f (y, o) = false := by
      intro hr
      refine hrest.congr fun x => ⟨?_, ?_⟩
      · rintro ⟨pre, post, hsplit, ho, hf, hbefore⟩
        refine ⟨r :: pre, post, by simp [hsplit], by simpa using ho, hf, ?_⟩
        rintro (_ | ⟨b, before⟩) y after o he hy
        · obtain ⟨rfl, -⟩ := List.cons.inj he
          exact hr o (by simpa using hy)
        · obtain ⟨rfl, he'⟩ := List.cons.inj he
          exact hbefore before y after o he' (by simpa using hy)
      · rintro ⟨_ | ⟨b, pre⟩, post, hsplit, ho, hf, hbefore⟩
        · obtain ⟨rfl, -⟩ := List.cons.inj hsplit
          rw [List.append_nil] at ho
          simp [hr _ ho] at hf
        · obtain ⟨rfl, hrest'⟩ := List.cons.inj hsplit
          refine ⟨pre, post, hrest', by simpa using ho, hf, fun before y after o he hy => ?_⟩
          exact hbefore (r :: before) y after o (by simp [he]) (by simpa using hy)
    unfold State.offersFrom
    split
    next o ho =>
      by_cases hf : f (r, o) = true
      · rw [List.find?_cons_of_pos hf]
        refine ⟨fun x hx => ?_, by simp⟩
        obtain rfl := Option.some.inj hx
        exact ⟨[], rest, rfl, by simpa using ho, hf, by simp⟩
      · rw [List.find?_cons_of_neg hf]
        exact hskip fun o' ho' => by
          obtain rfl := Option.some.inj (ho.symm.trans ho')
          simpa using hf
    next ho => exact hskip fun o' ho' => by simp [ho] at ho'

/-- The first record with `q` that a search finds to offer `o` is the oldest that does (R98). -/
theorem State.offers_finds (hs : s.mode.sched.running = true) (who : Requester) {q : Record → Prop} {o : Offer}
    {f : Record × Offer → Bool} (hf : ∀ x, f x = true ↔ x.2 = o ∧ q x.1) :
    Finds ((s.offers who).find? f) fun x => s.IsOldestOffer who q o x.1 ∧ x.2 = o := by
  refine (State.offersFrom_finds who [] (s.queueOf who)).congr fun x => ⟨?_, ?_⟩
  · rintro ⟨pre, post, hsplit, ho, hx, hbefore⟩
    obtain ⟨rfl, hq⟩ := (hf x).1 hx
    refine ⟨⟨pre, post, hsplit, hq, (State.offer_iff hs ..).1 ho, fun before y after he hqy hy => ?_⟩, rfl⟩
    have hno := hbefore before y after x.2 he ((State.offer_iff hs ..).2 hy)
    simp [(hf (y, x.2)).2 ⟨rfl, hqy⟩] at hno
  · rintro ⟨⟨pre, post, hsplit, hq, ho, hbefore⟩, rfl⟩
    refine ⟨pre, post, hsplit, (State.offer_iff hs ..).2 ho, (hf x).2 ⟨rfl, hq⟩, fun before y after o he hy => ?_⟩
    by_contra hno
    obtain ⟨ho', hqy⟩ := (hf (y, o)).1 (by simpa using hno)
    exact hbefore before y after he hqy ((State.offer_iff hs ..).1 (by rw [← ho']; exact hy))

/-! ### An owner's action (R98) -/

/-- Where a record with `q` offers `o`, one is the oldest that does. -/
theorem State.exists_oldestOffer {who : Requester} {q : Record → Prop} {o : Offer} (older : List Record) (r : Record)
    (younger : List Record) (hsplit : s.queueOf who = older ++ r :: younger) (hq : q r) (ho : s.Offers who older r o) :
    ∃ x, s.IsOldestOffer who q o x := by
  by_cases hfirst : ∀ before x after, older = before ++ x :: after → q x → ¬s.Offers who before x o
  · exact ⟨r, older, younger, hsplit, hq, ho, hfirst⟩
  · push Not at hfirst
    obtain ⟨before, x, after, he, hqx, hx⟩ := hfirst
    exact State.exists_oldestOffer before x (after ++ r :: younger) (by simp [hsplit, he]) hqx hx
termination_by older.length
decreasing_by simp [he]

/-- The search for a second kind of burst, where there is none of the first kind, is one for any burst. -/
theorem State.rowHit_finds (hs : s.mode.sched.running = true) (who : Requester) :
    Finds (s.rowHit who) (s.IsRowHit who) := by
  have hcont : Finds ((s.offers who).find? fun x => x.2 == .burst && x.1.state != .queued)
      fun x => s.IsOldestOffer who (fun r => r.state ≠ .queued) .burst x.1 ∧ x.2 = .burst :=
    State.offers_finds hs who (by simp)
  have hany : Finds ((s.offers who).find? fun x => x.2 == .burst)
      fun x => s.IsOldestOffer who (fun _ => True) .burst x.1 ∧ x.2 = .burst :=
    State.offers_finds hs who (by simp)
  unfold State.rowHit
  dsimp only
  rw [firstOf_cons, firstOf_single]
  refine (hcont.orElse hany).map.congr fun a => ?_
  constructor
  · rintro ⟨⟨r, o⟩, ⟨hr, rfl⟩ | ⟨hno, hr, rfl⟩, rfl⟩
    · exact .inl ⟨r, hr, rfl⟩
    · refine .inr ⟨?_, r, ?_, rfl⟩
      · rintro c ⟨x, hx, -⟩
        exact hno (x, .burst) ⟨hx, rfl⟩
      · obtain ⟨older, younger, hsplit, -, ho, hbefore⟩ := hr
        refine ⟨older, younger, hsplit, ?_, ho, fun before x after he _ => hbefore before x after he trivial⟩
        by_contra hq
        exact hno (r, .burst) ⟨⟨older, younger, hsplit, hq, ho, fun before x after he _ =>
          hbefore before x after he trivial⟩, rfl⟩
  · rintro (⟨r, hr, rfl⟩ | ⟨hno, r, hr, rfl⟩)
    · exact ⟨(r, .burst), .inl ⟨hr, rfl⟩, rfl⟩
    · refine ⟨(r, .burst), .inr ⟨fun c hc => hno _ ⟨c.1, hc.1, rfl⟩, ?_, rfl⟩, rfl⟩
      obtain ⟨older, younger, hsplit, -, ho, hbefore⟩ := hr
      refine ⟨older, younger, hsplit, trivial, ho, fun before x after he _ hx => ?_⟩
      by_cases hq : x.state = .queued
      · exact hbefore before x after he hq hx
      · obtain ⟨y, hy⟩ := State.exists_oldestOffer (q := fun r => r.state ≠ .queued) before x (after ++ r :: younger)
          (by simp [hsplit, he]) hq hx
        exact hno _ ⟨y, hy, rfl⟩

theorem State.startAction_finds (hs : s.mode.sched.running = true) (who : Requester) :
    Finds (s.startAction who) (s.IsStart who) := by
  have hopen : Finds ((s.offers who).find? fun x => x.2 == .openRow)
      fun x => s.IsOldestOffer who (fun _ => True) .openRow x.1 ∧ x.2 = .openRow :=
    State.offers_finds hs who (by simp)
  have hclose : Finds ((s.offers who).find? fun x => x.2 == .closeRow)
      fun x => s.IsOldestOffer who (fun _ => True) .closeRow x.1 ∧ x.2 = .closeRow :=
    State.offers_finds hs who (by simp)
  unfold State.startAction
  dsimp only
  rw [firstOf_cons, firstOf_single]
  refine (hopen.orElse hclose).map.congr fun a => ?_
  constructor
  · rintro ⟨⟨r, o⟩, ⟨hr, rfl⟩ | ⟨hno, hr, rfl⟩, rfl⟩
    · exact .inl ⟨r, hr, rfl⟩
    · exact .inr ⟨fun c ⟨x, hx, _⟩ => hno (x, .openRow) ⟨hx, rfl⟩, r, hr, rfl⟩
  · rintro (⟨r, hr, rfl⟩ | ⟨hno, r, hr, rfl⟩)
    · exact ⟨(r, .openRow), .inl ⟨hr, rfl⟩, rfl⟩
    · exact ⟨(r, .closeRow), .inr ⟨fun c hc => hno _ ⟨c.1, hc.1, rfl⟩, hr, rfl⟩, rfl⟩

/-! ### Refresh and housekeeping (R99 to R102) -/

theorem State.criticalWork_finds : Finds s.criticalWork s.IsCriticalWork := by
  have hat : ∀ b, Finds (s.criticalAt b) fun a => (s.account b).debt = 8 ∧
      ((s.CanOpen b ∧ a = .refresh b) ∨ (s.CanClose b ∧ a = .close b)) := by
    intro b
    have hexcl := State.not_canClose_of_canOpen (s := s) (b := b)
    have hcrit : s.critical b = true ↔ (s.account b).debt = 8 := by simp [State.critical]
    rw [State.canOpen_iff, State.canClose_iff] at *
    unfold State.criticalAt Finds
    rw [← hcrit]
    split_ifs <;> simp_all
  refine (findSome?_first (place := Fin.val) (by decide) mem_allBanks hat).congr fun a => ⟨?_, ?_⟩
  · rintro ⟨b, ⟨hb, ha⟩, hlow⟩
    refine ⟨b, ⟨⟨hb, ha.imp And.left And.left⟩, fun c hc ⟨hdebt, hcan⟩ => ?_⟩, ha⟩
    rcases hcan with hcan | hcan
    · exact hlow c hc _ ⟨hdebt, .inl ⟨hcan, rfl⟩⟩
    · exact hlow c hc _ ⟨hdebt, .inr ⟨hcan, rfl⟩⟩
  · rintro ⟨b, ⟨⟨hb, -⟩, hlow⟩, ha⟩
    exact ⟨b, ⟨hb, ha⟩, fun c hc x ⟨hdebt, hx⟩ => hlow c hc ⟨hdebt, hx.imp And.left And.left⟩⟩

/-- One step of the search for the highest debt: the bank takes the lead where its debt is higher (R100). -/
def State.betterDebt (s : State) (f : BankId → Bool) (best : Option BankId) (b : BankId) : Option BankId :=
  if f b then
    match best with
    | none => some b
    | some c => if (s.account c).debt < (s.account b).debt then some b else best
  else best

theorem State.highestDebt_eq (f : BankId → Bool) : s.highestDebt f = allBanks.foldl (s.betterDebt f) none := rfl

/-- The bank with the highest debt of those with `q`. -/
theorem State.highestDebt_finds {f : BankId → Bool} {q : BankId → Prop} (hq : ∀ b, q b ↔ f b = true) :
    Finds (s.highestDebt f) (s.HasHighestDebt q) := by
  rw [State.highestDebt_eq]
  have key : ∀ l : List BankId, l.Pairwise (· < ·) →
      (∀ b, l.foldl (s.betterDebt f) none = some b → b ∈ l ∧ s.HasHighestDebt (fun c => c ∈ l ∧ q c) b) ∧
        (l.foldl (s.betterDebt f) none = none → ∀ c ∈ l, ¬q c) := by
    intro l
    induction l using List.reverseRecOn with
    | nil => exact fun _ => ⟨by simp, by simp⟩
    | append_singleton l a ih =>
      intro hl
      obtain ⟨hpl, -, hla⟩ := List.pairwise_append.1 hl
      have hlt : ∀ c ∈ l, c < a := fun c hc => hla c hc a (by simp)
      obtain ⟨hsome, hnone⟩ := ih hpl
      rw [List.foldl_append, List.foldl_cons, List.foldl_nil]
      generalize l.foldl _ none = best at hsome hnone ⊢
      have hlast : ∀ c, c ∈ l ++ [a] ↔ c ∈ l ∨ c = a := by simp
      unfold State.betterDebt
      by_cases ha : f a = true
      · have hqa := (hq a).2 ha
        rw [if_pos ha]
        cases best with
        | none =>
          refine ⟨fun b hb => ?_, by simp⟩
          obtain rfl := Option.some.inj hb
          refine ⟨by simp, ⟨by simp, hqa⟩, fun c ⟨hc, hqc⟩ hne => ?_⟩
          exact absurd hqc (hnone rfl c (((hlast c).1 hc).resolve_right hne))
        | some d =>
          obtain ⟨hd, ⟨-, hqd⟩, hbest⟩ := hsome d rfl
          dsimp only
          split
          next hlt' =>
            refine ⟨fun b hb => ?_, by simp⟩
            obtain rfl := Option.some.inj hb
            refine ⟨by simp, ⟨by simp, hqa⟩, fun c ⟨hc, hqc⟩ hne => .inl ?_⟩
            have hcl := ((hlast c).1 hc).resolve_right hne
            by_cases hcd : c = d
            · exact hcd ▸ hlt'
            · rcases hbest c ⟨hcl, hqc⟩ hcd with h | ⟨h, -⟩ <;> omega
          next hge =>
            refine ⟨fun b hb => ?_, by simp⟩
            obtain rfl := Option.some.inj hb
            refine ⟨by simp [hd], ⟨by simp [hd], hqd⟩, fun c ⟨hc, hqc⟩ hne => ?_⟩
            rcases (hlast c).1 hc with hcl | rfl
            · exact hbest c ⟨hcl, hqc⟩ hne
            · rcases (not_lt.1 hge).lt_or_eq with h | h
              · exact .inl h
              · exact .inr ⟨h, hlt _ hd⟩
      · have hqa : ¬q a := fun h => ha ((hq a).1 h)
        rw [if_neg ha]
        refine ⟨fun b hb => ?_, fun hn c hc hqc => ?_⟩
        · obtain ⟨hbl, hqb, hbest⟩ := hsome b hb
          refine ⟨by simp [hbl], ⟨by simp [hbl], hqb.2⟩, fun c ⟨hc, hqc⟩ hne => ?_⟩
          exact hbest c ⟨((hlast c).1 hc).resolve_right fun h => hqa (h ▸ hqc), hqc⟩ hne
        · exact hnone hn c (((hlast c).1 hc).resolve_right fun h => hqa (h ▸ hqc)) hqc
  have hall := key allBanks (by decide)
  simp only [mem_allBanks, true_and] at hall
  exact ⟨hall.1, fun hn b hb => hall.2 hn b trivial hb.1⟩

theorem State.HasHighestDebt.unique {q : BankId → Prop} {b c : BankId} (hb : s.HasHighestDebt q b)
    (hc : s.HasHighestDebt q c) : b = c := by
  by_contra hne
  rcases hb.2 c hc.1 (Ne.symm hne) with h | ⟨h, hlt⟩ <;> rcases hc.2 b hb.1 hne with h' | ⟨h', hlt'⟩
  · exact absurd h h'.not_gt
  · exact absurd h h'.not_gt
  · exact absurd h' h.not_gt
  · exact absurd hlt hlt'.not_gt

theorem State.refreshWork_finds {f : BankId → Bool} {q : BankId → Prop} (hq : ∀ b, q b ↔ f b = true) :
    Finds ((s.highestDebt f).bind s.refreshWorkAt) (s.IsRefreshWork q) := by
  refine (State.highestDebt_finds hq).bind (fun a b => State.HasHighestDebt.unique) fun b => ?_
  have hexcl := State.not_canClose_of_canOpen (s := s) (b := b)
  have hurgent : s.urgent b = true ↔ (s.runPage.urgentLevel : Int) ≤ (s.account b).debt := by simp [State.urgent]
  rw [State.canOpen_iff, State.canClose_iff] at *
  unfold State.refreshWorkAt Finds
  rw [← hurgent]
  split_ifs <;> simp_all

theorem State.closePendingClose_finds : Finds s.closePendingClose s.IsClosePendingClose :=
  (find?_isLowest fun b => by rw [State.canClose_iff, Bool.and_eq_true]).map

theorem State.urgentWork_finds : Finds s.urgentWork s.IsUrgentWork :=
  State.refreshWork_finds fun b => by simp [State.urgent]

theorem State.refreshOwnerWork_finds : Finds s.refreshOwnerWork (s.IsRefreshWork fun c => 0 < (s.account c).debt) :=
  State.refreshWork_finds fun b => by simp [State.owed]

/-- No outstanding record with `p` names the bank's open row. -/
theorem State.none_names_iff (b : BankId) (p : Record → Bool) :
    (!s.outstanding.any fun r => p r && r.namesOpenRow (s.banks.get b) b) = true ↔
      ∀ r ∈ s.outstanding, p r = true → r.bank = b → (s.banks.get b).openRow? ≠ some r.row := by
  simp [Record.namesOpenRow]

theorem State.drainClose_finds : Finds s.drainClose s.IsDrainClose := by
  have hdrain : s.mode.sched.draining = true ↔ s.mode.sched = .drainHold ∨ ∃ ret, s.mode.sched = .drainSwitch ret := by
    cases s.mode.sched <;> simp [SchedState.draining]
  unfold State.drainClose
  simp only [Bool.and_assoc]
  refine (find?_isLowest_of (q := fun b => s.CanClose b ∧
      ∀ r ∈ s.outstanding, r.state = .suspended → r.bank = b → (s.banks.get b).openRow? ≠ some r.row)
    fun b => ?_).map.congr fun a => ?_
  · rw [Bool.and_eq_true, State.none_names_iff, State.canClose_iff]
    simp
  · rw [hdrain, State.IsDrainClose]
    simp only [and_assoc, exists_and_left]

theorem State.idleClose_finds : Finds s.idleClose s.IsIdleClose := by
  have hpolicy : (s.runPage.closePolicy == .closeIdle) = true ↔ s.runPage.closePolicy = .closeIdle := beq_iff_eq
  unfold State.idleClose
  rw [show s.idleClosable = fun b => _ from funext fun b => Bool.and_assoc ..]
  refine (find?_isLowest_of (q := fun b => s.CanClose b ∧
      ∀ r ∈ s.outstanding, r.bank = b → (s.banks.get b).openRow? ≠ some r.row) fun b => ?_).map.congr fun a => ?_
  · have hnone := s.none_names_iff b fun _ => true
    simp only [Bool.true_and] at hnone
    rw [Bool.and_eq_true, hnone, State.canClose_iff]
    simp
  · rw [hpolicy, State.IsIdleClose]
    simp only [and_assoc, exists_and_left]

theorem State.pullIn_finds : Finds s.pullIn s.IsPullIn :=
  (State.highestDebt_finds fun b => by
    simp [State.pullInEligible, Bank.isClosed_iff, and_assoc]).map

/-! ### The free-window order (R103 to R105) -/

/-- The offers of a queue, as the statements have them. -/
theorem State.mem_offers_iff (hs : s.mode.sched.running = true) {who : Requester} {x : Record × Offer} :
    x ∈ s.offers who ↔ ∃ older younger, s.queueOf who = older ++ x.1 :: younger ∧ s.Offers who older x.1 x.2 := by
  have key : ∀ l older, x ∈ s.offersFrom who older l ↔
      ∃ pre post, l = pre ++ x.1 :: post ∧ s.offer who (older ++ pre) x.1 = some x.2 := by
    intro l
    induction l with
    | nil => simp [State.offersFrom]
    | cons r rest ih =>
      intro older
      have hsplit : (∃ pre post, r :: rest = pre ++ x.1 :: post ∧ s.offer who (older ++ pre) x.1 = some x.2) ↔
          (r = x.1 ∧ s.offer who older r = some x.2) ∨ x ∈ s.offersFrom who (older ++ [r]) rest := by
        rw [ih]
        constructor
        · rintro ⟨_ | ⟨b, pre⟩, post, he, ho⟩
          · obtain ⟨rfl, -⟩ := List.cons.inj he
            exact .inl ⟨rfl, by simpa using ho⟩
          · obtain ⟨rfl, he'⟩ := List.cons.inj he
            exact .inr ⟨pre, post, he', by simpa using ho⟩
        · rintro (⟨rfl, ho⟩ | ⟨pre, post, rfl, ho⟩)
          · exact ⟨[], rest, rfl, by simpa using ho⟩
          · exact ⟨r :: pre, post, rfl, by simpa using ho⟩
      rw [hsplit, State.offersFrom]
      split
      next o ho => simp [ho, Prod.ext_iff, eq_comm]
      next ho => simp [ho]
  simp only [State.offers, key, List.nil_append, State.offer_iff hs]

/-- No record compared has an older stamp than the one chosen. -/
theorem foldl_olderStamp_le (x : Requester × Record × Offer) (l : List (Requester × Record × Offer)) :
    ∀ y ∈ x :: l, (l.foldl olderStamp x).2.1.stamp ≤ y.2.1.stamp := by
  induction l generalizing x with
  | nil => simp
  | cons z l ih =>
    have hle : (olderStamp x z).2.1.stamp ≤ x.2.1.stamp ∧ (olderStamp x z).2.1.stamp ≤ z.2.1.stamp := by
      unfold olderStamp; split <;> omega
    have hfirst := ih (olderStamp x z) _ List.mem_cons_self
    intro y hy
    rw [List.foldl_cons]
    rcases List.mem_cons.1 hy with rfl | hy
    · exact hfirst.trans hle.1
    · rcases List.mem_cons.1 hy with rfl | hy
      · exact hfirst.trans hle.2
      · exact ih (olderStamp x z) y (List.mem_cons_of_mem _ hy)

theorem State.overdueChoice_finds (hs : s.mode.sched.running = true) :
    Finds s.overdueChoice s.IsOverdueChoice := by
  have hmem : ∀ x, x ∈ s.overdueOffers ↔ x.2 ∈ s.offers x.1 ∧ s.runPage.starvationLimit ≤ x.2.1.age := by
    rintro ⟨who, x⟩
    simp only [State.overdueOffers, List.mem_flatMap, mem_allRequesters, true_and, List.mem_map, List.mem_filter,
      Record.overdue, decide_eq_true_eq, Prod.mk.injEq]
    constructor
    · rintro ⟨w, y, hy, rfl, rfl⟩; exact hy
    · exact fun h => ⟨who, x, h, rfl, rfl⟩
  have hoffers : ∀ r a, s.OffersOverdue r a ↔ ∃ x ∈ s.overdueOffers, x.2.1 = r ∧ a = offerAction x.1 x.2 := by
    intro r a
    simp only [hmem, State.mem_offers_iff hs, State.OffersOverdue]
    constructor
    · rintro ⟨hage, who, older, younger, hsplit, ⟨ho, rfl⟩ | ⟨ho, rfl⟩ | ⟨ho, rfl⟩⟩
      · exact ⟨(who, r, .burst), ⟨⟨older, younger, hsplit, ho⟩, hage⟩, rfl, rfl⟩
      · exact ⟨(who, r, .openRow), ⟨⟨older, younger, hsplit, ho⟩, hage⟩, rfl, rfl⟩
      · exact ⟨(who, r, .closeRow), ⟨⟨older, younger, hsplit, ho⟩, hage⟩, rfl, rfl⟩
    · rintro ⟨⟨who, r, o⟩, ⟨⟨older, younger, hsplit, ho⟩, hage⟩, rfl, rfl⟩
      refine ⟨hage, who, older, younger, hsplit, ?_⟩
      cases o
      · exact .inl ⟨ho, rfl⟩
      · exact .inr (.inl ⟨ho, rfl⟩)
      · exact .inr (.inr ⟨ho, rfl⟩)
  unfold State.overdueChoice
  split
  next hnil =>
    refine ⟨by simp, fun _ a ⟨r, hr, _⟩ => ?_⟩
    obtain ⟨x, hx, -⟩ := (hoffers r a).1 hr
    simp [hnil] at hx
  next x rest hcons =>
    refine ⟨fun a ha => ?_, by simp⟩
    obtain rfl := Option.some.inj ha
    have hbest : rest.foldl olderStamp x ∈ s.overdueOffers := hcons ▸ foldl_olderStamp_mem x rest
    refine ⟨_, (hoffers _ _).2 ⟨_, hbest, rfl, rfl⟩, fun r c hr => ?_⟩
    obtain ⟨y, hy, rfl, -⟩ := (hoffers r c).1 hr
    exact foldl_olderStamp_le x rest y (hcons ▸ hy)

/-! ### The round-robin (R104) -/

theorem searchOrder_pairwise (s : State) :
    (searchOrder s.arbiter.pointer).Pairwise fun x y => s.searchPlace x < s.searchPlace y := by
  unfold State.searchPlace
  generalize s.arbiter.pointer = ptr
  cases ptr with
  | port p => revert p; decide
  | host => decide

theorem mem_searchOrder (ptr who : Requester) : who ∈ searchOrder ptr := by
  have hall := mem_allRequesters who
  rw [← List.take_append_drop (ptr.code + 1) allRequesters, List.mem_append] at hall
  exact List.mem_append.2 hall.symm

theorem State.roundRobin_finds {look : Requester → Option Action} {work : Requester → Action → Prop}
    (hl : ∀ who, Finds (look who) (work who)) : Finds (s.roundRobin look) (s.IsServed work) := by
  refine (findSome?_first (searchOrder_pairwise s) (mem_searchOrder _) fun who => (hl who).map).congr fun x => ?_
  constructor
  · rintro ⟨who, ⟨a, ha, rfl⟩, hfirst⟩
    exact ⟨ha, fun w hw c hc => hfirst w hw _ ⟨c, hc, rfl⟩⟩
  · rintro ⟨hx, hfirst⟩
    exact ⟨x.1, ⟨x.2, hx, rfl⟩, fun w hw y ⟨c, hc, _⟩ => hfirst w hw c hc⟩

/-! ### The decision (R103) -/

theorem State.ownerTurn_finds (hs : s.mode.sched.running = true) : Finds s.ownerTurn s.IsTurn := by
  have howner : ∀ who, Finds (s.ownerAction who) (OrElse (s.IsRowHit who) (s.IsStart who)) := fun who => by
    rw [State.ownerAction, firstOf_cons, firstOf_single]
    exact (State.rowHit_finds hs who).orElse (State.startAction_finds hs who)
  unfold State.ownerTurn State.IsTurn State.owner
  cases s.runPage.owner s.arbiter.wheelPosition with
  | port p => exact howner (.port p)
  | host => exact howner .host
  | refresh => exact State.refreshOwnerWork_finds
  | free => exact ⟨by simp, by simp⟩

/-- Work that leaves the pointer. -/
theorem State.kept_finds {o : Option Action} {work : Action → Prop} (h : Finds o work) :
    Finds (o.map s.keepPointer) (s.Kept work) :=
  h.map.congr fun x => ⟨fun ⟨_, ha, hx⟩ => hx ▸ ⟨rfl, ha⟩, fun ⟨hp, hw⟩ => ⟨x.2, hw, Prod.ext hp rfl⟩⟩

theorem State.chooseRunning_finds (hs : s.mode.sched.running = true) : Finds s.chooseRunning s.Decides := by
  unfold State.chooseRunning State.freeWindow
  simp only [firstOf_cons, firstOf_nil, Option.or_none]
  exact (State.kept_finds State.criticalWork_finds).orElse <|
    (State.kept_finds State.closePendingClose_finds).orElse <|
    (State.kept_finds (State.ownerTurn_finds hs)).orElse <|
    (State.kept_finds State.urgentWork_finds).orElse <|
    (State.kept_finds (State.overdueChoice_finds hs)).orElse <|
    (State.kept_finds State.drainClose_finds).orElse <|
    (State.roundRobin_finds (State.rowHit_finds hs)).orElse <|
    (State.roundRobin_finds (State.startAction_finds hs)).orElse <|
    (State.kept_finds State.pullIn_finds).orElse (State.kept_finds State.idleClose_finds)

theorem State.choose_of_running (hs : s.mode.sched.running = true) : s.choose = s.chooseRunning := by
  unfold State.choose
  split <;> simp_all [SchedState.running]

theorem State.choose_of_init (hs : s.mode.sched = .init) : s.choose = s.chooseInit.map s.keepPointer := by
  rw [State.choose, hs]

end Sys2Proof.Machine

open Sys2Proof Sys2Proof.Machine

/-- Settles O52: each search of the decision finds what its rule asks for, in the order of R103. -/
theorem decisionsFollowTheOrder : Obligations.DecisionsFollowTheOrder := by
  intro s
  refine ⟨fun hs => by rw [State.choose, hs], fun hs => ?_, fun hs => ?_⟩
  · rw [State.choose_of_init hs]
    refine ⟨fun hc => by rw [State.chooseInit, hc]; rfl, fun n b hc hb => ?_, fun hc => by rw [State.chooseInit, hc]; rfl⟩
    have hbank : (⟨n % 4, by omega⟩ : BankId) = b := Fin.ext hb.symm
    simp only [State.chooseInit, hc, State.canOpen_iff, hbank]
    exact ⟨fun h => by rw [if_pos h]; rfl, fun h => by rw [if_neg h]; rfl⟩
  · rw [State.choose_of_running hs]
    exact State.chooseRunning_finds hs

end

section
/-! PROOFS. What a decision may choose at all (3.5, 5.4, 6.3 to 6.5), from the order of a decision. -/

-- One proof after another: a thread for each would reserve more memory than the check allows.
set_option Elab.async false

namespace Sys2Proof.Machine

variable {s : State}

/-- What the state grants an action that a decision chooses. A bank is refreshed against its debt, or ahead of it by a
pull-in, unless the run page calls a bank without debt urgent, which no page within range does. -/
def State.Grants (s : State) : Action → Prop
  | .closeAll => s.mode.sched = .init ∧ s.refresh.conditioning = .clearing
  | .condition b =>
    s.mode.sched = .init ∧ (∃ n, s.refresh.conditioning = .conditioning n ∧ b.val = n % 4) ∧
    (s.banks.get b).state = .closed ∧ 1 ≤ s.credit.count
  | .refresh b =>
    s.mode.sched.running = true ∧ (s.banks.get b).state = .closed ∧ 1 ≤ s.credit.count ∧ -4 < (s.account b).debt ∧
    (0 < (s.account b).debt ∨ s.runPage.urgentLevel = 0 ∨
      s.pointerNeedsRefresh b = true ∧ 2 ≤ s.credit.count ∧ ∀ r ∈ s.outstanding, r.bank ≠ b)
  | .close b => s.mode.sched.running = true ∧ s.CanClose b
  | .openFor b row =>
    s.mode.sched.running = true ∧ (s.banks.get b).state = .closed ∧ 1 ≤ s.credit.count ∧
    ∃ who older r younger, s.queueOf who = older ++ r :: younger ∧ r.bank = b ∧ r.row = row ∧
      r.isActive = false ∧ s.MayAct who older r
  | .burst who r =>
    s.mode.sched.running = true ∧ s.CanBurst who r ∧
    ∃ older younger, s.queueOf who = older ++ r :: younger ∧ s.MayAct who older r

/-! ### Each kind of work -/

section Running

variable (hs : s.mode.sched.running = true) {who : Requester} {a : Action} {x : Requester × Action}

include hs

/-- What a record of a queue offers is granted. -/
theorem State.Offers.grants {older younger : List Record} {r : Record} {o : Offer}
    (hq : s.queueOf who = older ++ r :: younger) (ho : s.Offers who older r o) :
    s.Grants (offerAction who (r, o)) := by
  cases o with
  | burst => exact ⟨hs, ho.2, older, younger, hq, ho.1⟩
  | openRow =>
    obtain ⟨hact, hmay, hclosed, hcredit⟩ := ho
    exact ⟨hs, hclosed, hcredit, who, older, r, younger, hq, rfl, rfl, hact, hmay⟩
  | closeRow => exact ⟨hs, ho.2.2.1⟩

theorem State.IsOldestOffer.grants {q : Record → Prop} {o : Offer} {r : Record} (h : s.IsOldestOffer who q o r) :
    s.Grants (offerAction who (r, o)) := by
  obtain ⟨older, younger, hsplit, -, ho, -⟩ := h
  exact State.Offers.grants hs hsplit ho

theorem State.IsRowHit.grants (h : s.IsRowHit who a) : s.Grants a := by
  rcases h with ⟨r, hr, rfl⟩ | ⟨-, r, hr, rfl⟩
  · exact State.IsOldestOffer.grants hs hr
  · exact State.IsOldestOffer.grants hs hr

theorem State.IsStart.grants (h : s.IsStart who a) : s.Grants a := by
  rcases h with ⟨r, hr, rfl⟩ | ⟨-, r, hr, rfl⟩
  · exact State.IsOldestOffer.grants hs hr
  · exact State.IsOldestOffer.grants hs hr

theorem State.IsCriticalWork.grants (h : s.IsCriticalWork a) : s.Grants a := by
  obtain ⟨b, ⟨⟨hdebt, -⟩, -⟩, ⟨hopen, rfl⟩ | ⟨hclose, rfl⟩⟩ := h
  · exact ⟨hs, hopen.1, hopen.2, by omega, .inl (by omega)⟩
  · exact ⟨hs, hclose⟩

theorem State.IsRefreshWork.grants {q : BankId → Prop} 
    (hq : ∀ b, q b → 0 < (s.account b).debt ∨ s.runPage.urgentLevel = 0 ∧ (s.account b).debt = 0) (h : s.IsRefreshWork q a) : s.Grants a := by
  obtain ⟨b, ⟨hb, -⟩, ⟨hopen, rfl⟩ | ⟨-, hclose, rfl⟩⟩ := h
  · have hdebt := hq b hb
    exact ⟨hs, hopen.1, hopen.2, by omega, hdebt.imp id fun h => .inl h.1⟩
  · exact ⟨hs, hclose⟩

theorem State.IsTurn.grants (h : s.IsTurn a) : s.Grants a := by
  unfold State.IsTurn at h
  split at h
  · exact h.elim (State.IsRowHit.grants hs) fun h => State.IsStart.grants hs h.2
  · exact h.elim (State.IsRowHit.grants hs) fun h => State.IsStart.grants hs h.2
  · exact State.IsRefreshWork.grants hs (fun _ => .inl) h
  · exact h.elim

theorem State.IsUrgentWork.grants (h : s.IsUrgentWork a) : s.Grants a :=
  State.IsRefreshWork.grants hs (fun _ hb => by omega) h

theorem State.IsOverdueChoice.grants (h : s.IsOverdueChoice a) : s.Grants a := by
  obtain ⟨r, ⟨-, who, older, younger, hsplit, ho⟩, -⟩ := h
  rcases ho with ⟨ho, rfl⟩ | ⟨ho, rfl⟩ | ⟨ho, rfl⟩
  all_goals exact State.Offers.grants hs hsplit ho

/-- Whatever a running state's decision is, the state grants it. -/
theorem State.Decides.grants (h : s.Decides x) : s.Grants x.2 := by
  rcases h with ⟨-, h⟩ | ⟨-, ⟨-, h⟩ | ⟨-, ⟨-, h⟩ | ⟨-, ⟨-, h⟩ | ⟨-, ⟨-, h⟩ | ⟨-, ⟨-, h⟩ | ⟨-, h | ⟨-, h | ⟨-, h⟩⟩⟩⟩⟩⟩⟩⟩
  · exact State.IsCriticalWork.grants hs h
  · obtain ⟨b, ⟨⟨-, hclose⟩, -⟩, he⟩ := h
    exact he ▸ ⟨hs, hclose⟩
  · exact State.IsTurn.grants hs h
  · exact State.IsUrgentWork.grants hs h
  · exact State.IsOverdueChoice.grants hs h
  · obtain ⟨-, b, ⟨⟨hclose, -⟩, -⟩, he⟩ := h
    exact he ▸ ⟨hs, hclose⟩
  · exact State.IsRowHit.grants hs h.1
  · exact State.IsStart.grants hs h.1
  · rcases h with ⟨-, b, ⟨⟨hclosed, hdebt, hneed, hnone, hcredit⟩, -⟩, he⟩ | ⟨-, -, -, b, ⟨⟨hclose, -⟩, -⟩, he⟩
    · exact he ▸ ⟨hs, hclosed, by omega, hdebt, .inr (.inr ⟨hneed, hcredit, hnone⟩)⟩
    · exact he ▸ ⟨hs, hclose⟩

end Running

theorem State.chooseInit_grants (hs : s.mode.sched = .init) {a : Action} (h : s.chooseInit = some a) : s.Grants a := by
  unfold State.chooseInit at h
  split at h
  next hc =>
    obtain rfl := Option.some.inj h
    exact ⟨hs, hc⟩
  next n hc =>
    dsimp only at h
    split_ifs at h with hr
    obtain rfl := Option.some.inj h
    have hopen := (State.canOpen_iff _).2 hr
    exact ⟨hs, ⟨n, hc, rfl⟩, hopen.1, hopen.2⟩
  · cases h
  · cases h

/-- Where something is chosen, the part is not in STOPPED; what is chosen in INIT is the conditioning's. -/
theorem State.choose_cases {x : Requester × Action} (h : s.choose = some x) :
    (s.mode.sched = .init ∧ s.chooseInit = some x.2 ∧ x.1 = s.arbiter.pointer) ∨
      (s.mode.sched.running = true ∧ s.Decides x) := by
  by_cases hr : s.mode.sched.running = true
  · rw [State.choose_of_running hr] at h
    exact .inr ⟨hr, (State.chooseRunning_finds hr).1 x h⟩
  · by_cases hi : s.mode.sched = .init
    · rw [State.choose_of_init hi] at h
      obtain ⟨a, ha, rfl⟩ := Option.map_eq_some_iff.1 h
      exact .inl ⟨hi, ha, rfl⟩
    · have hstop : s.mode.sched = .stopped := by
        revert hr hi; cases s.mode.sched <;> simp [SchedState.running]
      rw [State.choose, hstop] at h
      cases h

/-- Whatever a decision chooses, the state grants. -/
theorem State.choose_grants {x : Requester × Action} (h : s.choose = some x) : s.Grants x.2 := by
  rcases State.choose_cases h with ⟨hs, hc, -⟩ | ⟨hs, hd⟩
  · exact State.chooseInit_grants hs hc
  · exact State.Decides.grants hs hd

end Sys2Proof.Machine

open Sys2Proof Sys2Proof.Machine

/-- Settles O51: a decision's choice is one of the kinds of work, and each kind asks for what the statement says. -/
theorem chosenActionIsAllowed : Obligations.ChosenActionIsAllowed := by
  intro s ptr a hp hc
  have hg := State.choose_grants hc
  cases a with
  | closeAll => exact hg
  | condition b => exact hg
  | refresh b =>
    obtain ⟨hs, hclosed, hcredit, hdebt, hahead⟩ := hg
    have hlevel : 2 ≤ s.runPage.urgentLevel := (hp.1 s.mode.runSelect).urgentLevel.1
    exact ⟨hs, hclosed, hcredit, hdebt, fun hno => (hahead.resolve_left hno).resolve_left (by omega)⟩
  | close b => exact hg
  | openFor b row => exact hg
  | burst who r =>
    obtain ⟨hs, ⟨hopen, hmark, hdebt, hready⟩, hq⟩ := hg
    exact ⟨hs, hopen, hmark, hdebt, hready, hq⟩

end

section
/-! PROOFS. What a command is made of. A law that each of a few moves keeps, every command keeps (`Law.after`): a move
says of a change only what some law reads of it, and the moves a law does not read need no proof of their own. -/

-- One proof after another: a thread for each would reserve more memory than the check allows.
set_option Elab.async false

namespace Sys2Proof.Machine

variable {s t : State}

/-! ### What the refresh engine and a region commit change alone -/

theorem State.retireOne_eq (s : State) (b : BankId) :
    s.retireOne b = { s with refresh := (s.retireOne b).refresh, dram := (s.retireOne b).dram } := by
  unfold State.retireOne; dsimp only; split <;> rfl

/-- A retirement check changes the accounts and the rank alone (R119). -/
theorem State.retirementCheck_eq (s : State) (b : BankId) :
    s.retirementCheck b =
      { s with refresh := (s.retirementCheck b).refresh, dram := (s.retirementCheck b).dram } := by
  have key : ∀ n s, State.retireUpTo b n s =
      { s with refresh := (State.retireUpTo b n s).refresh, dram := (State.retireUpTo b n s).dram } := by
    intro n
    induction n with
    | zero => exact fun s => rfl
    | succ n ih =>
      intro s
      unfold State.retireUpTo
      split
      · rw [ih (s.retireOne b), s.retireOne_eq b]
      · rfl
  exact key _ s

/-- What a retirement check leaves alone, several leave alone (R66, R112). -/
theorem State.retirementChecks_eq (s : State) (q : BankId → Bool) (l : List BankId) :
    l.foldl (fun u b => if q b then u.retirementCheck b else u) s =
      { s with
        refresh := (l.foldl (fun u b => if q b then u.retirementCheck b else u) s).refresh
        dram := (l.foldl (fun u b => if q b then u.retirementCheck b else u) s).dram } := by
  induction l generalizing s with
  | nil => rfl
  | cons b l ih =>
    rw [List.foldl_cons, ih]
    split
    · rw [s.retirementCheck_eq b]
    · rfl

theorem State.retirements_eq (s : State) (l : List BankId) :
    l.foldl State.retirementCheck s =
      { s with
        refresh := (l.foldl State.retirementCheck s).refresh, dram := (l.foldl State.retirementCheck s).dram } := by
  simpa using s.retirementChecks_eq (fun _ => true) l

/-- A region commit changes the table, the accounts and the rank alone (R66). -/
theorem State.commitRegion_eq (s : State) (i : Fin 16) (e : Region) :
    s.commitRegion i e = { s with
      regions := put s.regions i e
      refresh := (s.commitRegion i e).refresh
      dram := (s.commitRegion i e).dram } := by
  unfold State.commitRegion
  dsimp only
  rw [State.retirementChecks_eq]
  rfl

theorem State.expiryAt_eq (s : State) (b : BankId) :
    s.expiryAt b = { s with
      ports := (s.expiryAt b).ports, hostQueue := (s.expiryAt b).hostQueue, banks := (s.expiryAt b).banks
      refresh := (s.expiryAt b).refresh, events := (s.expiryAt b).events } := by
  unfold State.expiryAt
  dsimp only
  split
  · split
    · rw [State.post_eq]; rfl
    · rfl
  · rw [State.post_eq]

theorem State.expiries_eq (s : State) (l : List BankId) :
    l.foldl State.expiryAt s = { s with
      ports := (l.foldl State.expiryAt s).ports, hostQueue := (l.foldl State.expiryAt s).hostQueue
      banks := (l.foldl State.expiryAt s).banks, refresh := (l.foldl State.expiryAt s).refresh
      events := (l.foldl State.expiryAt s).events } := by
  induction l generalizing s with
  | nil => rfl
  | cons b l ih => rw [List.foldl_cons, ih, s.expiryAt_eq b]

/-- An expiry changes the records, the pins, the accounts, the event queue and the rank alone (R112). -/
theorem State.takeExpiry_eq (s : State) :
    s.takeExpiry = { s with
      ports := s.takeExpiry.ports, hostQueue := s.takeExpiry.hostQueue, banks := s.takeExpiry.banks
      refresh := s.takeExpiry.refresh, events := s.takeExpiry.events, dram := s.takeExpiry.dram } := by
  unfold State.takeExpiry
  dsimp only
  rw [State.retirements_eq, s.expiries_eq]

/-! ### The moves that say something of requests and banks -/

/-- `k` may follow the entry of bank `b`: no row is held open, or the row that was, or a row by its translation; and a mark
stands only where it stood, or where a row is held open. -/
def State.BankFollows (s : State) (b : BankId) (k : Bank) : Prop :=
  (k.openRow? = none ∨ (k.openRow? = (s.banks.get b).openRow? ∧ k.physRow? = (s.banks.get b).physRow?) ∨
    ∃ row, k.openRow? = some row ∧ k.physRow? = some (s.translate b row)) ∧
  (k.closePending = true → k.openRow?.isSome = true ∨
    ((s.banks.get b).closePending = true ∧ k.openRow? = (s.banks.get b).openRow?))

/-- The banks follow, and so do the regions but for their counts. -/
structure State.TablesFollow (s t : State) : Prop where
  banks : ∀ b, s.BankFollows b (t.banks.get b)
  regions : ∀ i, ∃ n, t.regions.get i = { s.regions.get i with refCount := n }

/-- No tag stands twice in the queue. -/
def State.TagsDistinct (s : State) (who : Requester) : Prop := ((s.queueOf who).map Record.tag).Nodup

/-- Records leave the queues: what is left keeps its order, the regions stop counting those that left, and a slot whose
record has left is QUEUED no more (R47). -/
structure State.Finished (s t : State) : Prop where
  frame : t = { s with
    host := t.host, ports := t.ports, hostQueue := t.hostQueue, regions := t.regions, banks := t.banks }
  tables : s.TablesFollow t
  lines : ∀ p, (t.ports.get p).state = (s.ports.get p).state
  left : ∀ who, (t.queueOf who).Sublist (s.queueOf who)
  counted : (∀ who, s.TagsDistinct who) → ∃ l, s.outstanding.Perm (l ++ t.outstanding) ∧ s.CountsLowered t l
  slots : s.HostQueueSound → ∀ k, (t.host.slots.get k).state = .queued ↔
    (s.host.slots.get k).state = .queued ∧ ∀ r ∈ s.hostQueue, r.origin = .slot k → r ∈ t.hostQueue

/-- What follows `r` in its queue: the same request, with no burst more than it has left; a host request stays QUEUED as it
was. -/
structure Record.Succeeds (q r : Record) (who : Requester) : Prop where
  tag : q.tag = r.tag
  region : q.region = r.region
  origin : q.origin = r.origin
  length : q.length = r.length
  word : q.word = r.word
  burstsLeft : r.burstsDone < r.length → q.burstsDone < q.length
  queued : who = .host → r.state = .queued → q.state = .queued ∧ q.burstsDone = r.burstsDone

/-- Records change in place, and so do the lines of the ports: none becomes ACTIVE on a bank whose debt is 8, and a port
that is not ENABLED any more has no record. -/
structure State.InPlace (s t : State) : Prop where
  frame : t = { s with ports := t.ports, hostQueue := t.hostQueue, banks := t.banks, decided := t.decided }
  banks : ∀ b, s.BankFollows b (t.banks.get b)
  lines : ∀ p, (t.ports.get p).state ≠ .enabled → (s.ports.get p).state ≠ .enabled ∨ (s.ports.get p).queue = []
  active : ∀ q ∈ t.outstanding, q.isActive = true →
    (s.account q.bank).debt < 8 ∨ ∃ r ∈ s.outstanding, r.isActive = true ∧ r.bank = q.bank
  follow : ∀ who, s.TagsDistinct who →
    List.Forall₂ (fun r q => Record.Succeeds q r who) (s.queueOf who) (t.queueOf who)

/-- A record joins the tail of a queue, QUEUED, in a state that admits requests; its region counts it (R39). -/
structure State.Filed (s t : State) (who : Requester) (r : Record) : Prop where
  frame : t = { s with
    host := t.host, ports := t.ports, hostQueue := t.hostQueue, regions := t.regions, stamp := t.stamp }
  running : s.mode.sched.running = true
  joined : t.queueOf who = s.queueOf who ++ [r]
  others : ∀ w, w ≠ who → t.queueOf w = s.queueOf w
  counted : ∀ i, t.regions.get i =
    { s.regions.get i with refCount := (s.regions.get i).refCount + if r.region = i then 1 else 0 }
  queued : r.state = .queued ∧ r.burstsDone = 0 ∧ 0 < r.length
  lines : ∀ p, (t.ports.get p).state = (s.ports.get p).state
  ofPort : ∀ p, who = .port p → (s.ports.get p).state = .enabled ∧ (s.ports.get p).queue.length < 8 ∧
    (∀ q ∈ (s.ports.get p).queue, q.tag ≠ r.tag) ∧ ∀ k, (t.host.slots.get k).state = (s.host.slots.get k).state
  ofHost : who = .host → ∃ k : SlotId, r.origin = .slot k ∧ r.tag.val = k.val ∧ r.length = 1 ∧ r.word.isSome = true ∧
    (s.host.slots.get k).state = .free ∧
    ∀ l, (t.host.slots.get l).state = if k = l then .queued else (s.host.slots.get l).state

/-! ### The laws -/

/-- What every move keeps. -/
structure Law (I : State → Prop) : Prop where
  /-- What no law reads: the host's registers but for which slots are QUEUED, the bus, the past of rows and the counters. -/
  other : ∀ s t : State, t = { s with
      host := t.host, bus := t.bus, history := t.history, decided := t.decided, freeCount := t.freeCount } →
    (∀ k, (t.host.slots.get k).state = .queued ↔ (s.host.slots.get k).state = .queued) → I s → I t := by
      intro s t ht _ h; rw [ht]; exact h
  /-- The wheel position stays, goes to 0 or goes on within the wheel. -/
  arbiter : ∀ (s : State) (a : Arbiter),
    (a.wheelPosition = s.arbiter.wheelPosition ∨ a.wheelPosition = 0 ∨ a.wheelPosition < s.runPage.wheelLength) →
    I s → I { s with arbiter := a } := by exact fun _ _ _ h => h
  events : ∀ (s : State) (q : EventQueue), (s.events.Sound → q.Sound) → I s → I { s with events := q } := by
    exact fun _ _ _ h => h
  credit : ∀ (s : State) (c : CreditBucket), (s.CreditInRange → c.count ≤ s.runPage.creditCapacity) → I s →
    I { s with credit := c } := by exact fun _ _ _ h => h
  dram : ∀ (s : State) (d : Dram), (s.dram.wf = true → d.wf = true) → I s → I { s with dram := d } := by
    exact fun _ _ _ h => h
  elapsed : ∀ (s : State) (n : Nat), I s → I { s with refresh := { s.refresh with elapsed := n } } := by
    exact fun _ _ h => h
  /-- From one running state to another; a switch waits only with a valid edit page. -/
  sched : ∀ (s : State) (st : SchedState), s.mode.sched.running = true → st.running = true →
    (∀ ret, st = .drainSwitch ret → s.editPage.Valid) → I s → I (s.setSched st) := by exact fun _ _ _ _ _ h => h
  start : ∀ s : State, s.mode.sched = .stopped → I s →
    I { s.setSched .init with refresh := { s.refresh with conditioning := .clearing } } := by exact fun _ _ h => h
  /-- The conditioning goes on in INIT. -/
  condition : ∀ (s : State) (c : Conditioning), s.mode.sched = .init → c ≠ .idle →
    (∀ n, c = .conditioning n → n < 32) → I s → I { s with refresh := { s.refresh with conditioning := c } } := by
      exact fun _ _ _ _ _ h => h
  /-- SOFT_RESET in a running state, where no conditioning is under way, sets it to idle. -/
  idle : ∀ s : State, s.mode.sched.running = true → I s →
    I { s with refresh := { s.refresh with conditioning := .idle } } := by exact fun _ _ h => h
  endConditioning : ∀ s : State, s.refresh.conditioning = .trailing → I s →
    I ({ s with refresh := .powerOn, dram := [], history := .powerOn }.setSched .run) := by exact fun _ _ h => h
  flipPages : ∀ s : State, (s.mode.sched = .stopped ∧ s.editPage.Valid ∨ ∃ ret, s.mode.sched = .drainSwitch ret) → I s →
    I s.flipPages := by exact fun _ _ h => h
  /-- The edit page takes a value. -/
  editPage : ∀ (s : State) (p : Page), (∀ ret, s.mode.sched ≠ .drainSwitch ret) → (s.PagesSound → p.InRange) → I s →
    I { s with mode := { s.mode with pages := put s.mode.pages s.editSelect p } } := by exact fun _ _ _ _ h => h
  powerOn : ∀ (s : State) (asserted : Bool), I s → I (s.powerOn asserted)
  softResetIdle : ∀ s : State, (s.mode.sched = .stopped ∨ s.mode.sched = .init) → I s → I s.softResetIdle
  commitRegion : ∀ (s : State) (i : Fin 16) (g : StagedRegion) (cls : RefreshClass), g.rangeValid = true →
    g.overlapsOther s.regions i = false → I s → I (s.commitRegion i (g.toRegion cls (s.regions.get i).refCount)) := by
      intro s i g cls _ _ h; rw [State.commitRegion_eq]; generalize State.commitRegion _ _ _ = u; exact h
  commitRemap : ∀ (s : State) (i : Fin 8) (e : RemapEntry), s.remapRefusal i e = none → I s →
    I { s.editRows i e with remap := put s.remap i (remapStored (s.remap.get i) e) } := by
      intro s i e _ h; rw [State.editRows_eq]; generalize State.editRows _ _ _ = u; exact h
  banks : ∀ (s : State) (v : Vector Bank 4), (∀ b, s.BankFollows b (v.get b)) → I s → I { s with banks := v } := by
    exact fun _ _ _ h => h
  finish : ∀ s t : State, s.Finished t → I s → I t := by intro s t ht h; rw [ht.frame]; exact h
  inPlace : ∀ s t : State, s.InPlace t → I s → I t := by intro s t ht h; rw [ht.frame]; exact h
  file : ∀ (s t : State) (who : Requester) (r : Record), s.Filed t who r → I s → I t := by
    intro s t who r ht h; rw [ht.frame]; exact h
  takeExpiry : ∀ s : State, I s → I s.takeExpiry := by
    intro s h; rw [State.takeExpiry_eq]; generalize State.takeExpiry _ = u; exact h
  /-- A REFRESH against the debt pays, and the check for groups to retire follows. -/
  payRefresh : ∀ (s : State) (b : BankId), -4 < (s.account b).debt → I s →
    I ((s.modAccount b Account.pay).retirementCheck b) := by
      intro s b _ h; rw [State.retirementCheck_eq]; generalize State.retirementCheck _ _ = u; exact h

end Sys2Proof.Machine
end

section
/-! PROOFS. Each happening as a sequence of moves: finishes, filings, bursts, expiries, windows, and the host's commands. -/

-- One proof after another: a thread for each would reserve more memory than the check allows.
set_option Elab.async false

namespace Sys2Proof.Machine

variable {s t : State}

/-! ### Banks and regions that follow -/

theorem State.BankFollows.of_rows {b : BankId} {k : Bank} (ho : k.openRow? = (s.banks.get b).openRow?)
    (hp : k.physRow? = (s.banks.get b).physRow?) (hc : k.closePending = true → (s.banks.get b).closePending = true) :
    s.BankFollows b k := ⟨.inr (.inl ⟨ho, hp⟩), fun h => .inr ⟨hc h, ho⟩⟩

theorem State.BankFollows.of_none {b : BankId} {k : Bank} (ho : k.openRow? = none)
    (hc : k.closePending = true → (s.banks.get b).closePending = true ∧ (s.banks.get b).openRow? = none) :
    s.BankFollows b k := ⟨.inl ho, fun h => .inr ⟨(hc h).1, ho.trans (hc h).2.symm⟩⟩

theorem State.BankFollows.refl (b : BankId) : s.BankFollows b (s.banks.get b) := .of_rows rfl rfl id

/-- One bank changes, and follows. -/
theorem State.bankFollows_put {b : BankId} {k : Bank} (h : s.BankFollows b k) (c : BankId) :
    s.BankFollows c ((put s.banks b k).get c) := by
  rw [get_put]
  split
  next hb => exact hb ▸ h
  next => exact .refl c

theorem State.TablesFollow.of_released {r : Record} (hb : t.banks = (s.release r).banks)
    (hr : t.regions = (s.release r).regions) : s.TablesFollow t where
  banks b := by rw [hb, State.release_bank]; exact .of_rows rfl rfl id
  regions i := ⟨_, by rw [hr, State.release_region]⟩

theorem State.TablesFollow.of_releasedAll {l : List Record} (hb : t.banks = (l.foldl State.release s).banks)
    (hr : t.regions = (l.foldl State.release s).regions) : s.TablesFollow t where
  banks b := by rw [hb, s.releaseAll_pins l b]; exact .of_rows rfl rfl id
  regions i := ⟨_, by rw [hr, s.releaseAll_counts l i]⟩

/-! ### Finishes (R47) -/

theorem State.release_counts {r q : Record} (h : q.region = r.region) : s.CountsLowered (s.release r) [q] := by
  intro i
  rw [State.release_region]
  simp [List.countP_cons, h]

/-- Releases change the region counts and the pin counts alone. -/
theorem State.releases_eq (s : State) (l : List Record) : l.foldl State.release s = { s with
    regions := (l.foldl State.release s).regions, banks := (l.foldl State.release s).banks } := by
  induction l generalizing s with
  | nil => rfl
  | cons r l ih => rw [List.foldl_cons, ih, s.release_eq r]

/-- A record of a port finishes. -/
theorem State.finishClient_finished {p : PortId} {r q : Record} (hq : q ∈ (s.ports.get p).queue) (htag : q.tag = r.tag)
    (hregion : q.region = r.region) (st : FinishStatus) : s.Finished (s.finishClient p r st) := by
  have hother : ∀ who, who ≠ .port p → (s.finishClient p r st).queueOf who = s.queueOf who := by
    intro who hw
    cases who with
    | port c => simp [State.queueOf, State.finishClient_get, show p ≠ c from fun e => hw (e ▸ rfl)]
    | host => exact s.finishClient_hostQueue ..
  have hqueue : (s.finishClient p r st).queueOf (.port p) = (s.ports.get p).queue.eraseP fun x => x.tag == r.tag := by
    simp [State.queueOf, State.finishClient_get]
  refine ⟨?_, .of_released rfl rfl, fun c => ?_, fun who => ?_, fun hd => ⟨[q], ?_, State.release_counts hregion⟩,
    fun _ k => ?_⟩
  · unfold State.finishClient; rw [State.release_eq]; rfl
  · rw [State.finishClient_get]; split
    next h => subst h; rfl
    next => rfl
  · by_cases hw : who = .port p
    · subst hw; rw [hqueue]; exact List.eraseP_sublist
    · rw [hother who hw]
  · refine State.outstanding_perm (who := .port p) ?_ hother
    rw [hqueue]
    exact perm_cons_eraseP (htag ▸ find?_tag (hd (.port p)) hq)
  · simp +contextual

/-- Every record of a port finishes (R29, R30). -/
theorem State.emptyPort_finished (s : State) (p : PortId) (f : List Record → List Notice) :
    s.Finished (s.emptyPort p f) := by
  have hother : ∀ who, who ≠ .port p → (s.emptyPort p f).queueOf who = s.queueOf who := by
    intro who hw
    cases who with
    | port c => simp [State.queueOf, State.emptyPort_get, show p ≠ c from fun e => hw (e ▸ rfl)]
    | host => exact s.emptyPort_hostQueue ..
  have hqueue : (s.emptyPort p f).queueOf (.port p) = [] := by simp [State.queueOf, State.emptyPort_get]
  refine ⟨?_, .of_releasedAll rfl rfl, fun c => ?_, fun who => ?_,
    fun hd => ⟨(s.ports.get p).queue, State.outstanding_perm (who := .port p) ?_ hother, s.releaseAll_counts _⟩,
    fun _ k => ?_⟩
  · unfold State.emptyPort; dsimp only; rw [State.releases_eq]; rfl
  · rw [State.emptyPort_get]; split
    next h => subst h; rfl
    next => rfl
  · by_cases hw : who = .port p
    · subst hw; rw [hqueue]; exact List.nil_sublist _
    · rw [hother who hw]
  · rw [hqueue]; simp [State.queueOf]
  · simp +contextual

/-- Where the slots and the host queue name each other, a slot's record is the one under the slot's number. -/
theorem State.HostQueueSound.origin_unique (h : s.HostQueueSound) {r q : Record} (hr : r ∈ s.hostQueue)
    (hq : q ∈ s.hostQueue) (ho : r.origin = q.origin) : r = q := by
  obtain ⟨k, hrk, hrt, -⟩ := h.ofSlot r hr
  obtain ⟨l, hql, hqt, -⟩ := h.ofSlot q hq
  have hkl : k = l := Origin.slot.inj (hrk.symm.trans (ho.trans hql))
  have htag : r.tag = q.tag := Fin.ext (by rw [hrt, hqt, hkl])
  have hfind := find?_tag h.tagsDistinct hr
  rw [htag, find?_tag h.tagsDistinct hq] at hfind
  exact (Option.some.inj hfind).symm

/-- Every host record finishes, its slot QUEUED no more (R151, R171). -/
theorem State.flushHost_finished (s : State) : s.Finished s.flushHost := by
  have hports : ∀ w, w ≠ .host → s.flushHost.queueOf w = s.queueOf w := by
    intro w hw
    cases w with
    | port c => simp [State.queueOf]
    | host => exact absurd rfl hw
  have hflush : ∀ k : Slot, k.flush.state ≠ .queued := by
    intro k
    unfold Slot.flush
    split
    · simp
    next h => exact h
  refine ⟨?_, .of_releasedAll rfl rfl, fun c => by simp, fun who => ?_,
    fun _ => ⟨s.hostQueue, State.outstanding_perm (who := .host) ?_ hports, s.releaseAll_counts _⟩, fun hh k => ?_⟩
  · unfold State.flushHost; dsimp only; rw [State.releases_eq]
  · by_cases hw : who = .host
    · subst hw; exact List.nil_sublist _
    · rw [hports who hw]
  · simp [State.queueOf]
  · rw [State.flushHost_host, get_map]
    refine ⟨fun h => absurd h (hflush _), fun ⟨hk, hall⟩ => ?_⟩
    obtain ⟨r, hr, ho⟩ := hh.ofQueued k hk
    simpa using hall r hr ho

/-- A host record that its burst has moved finishes, and its slot becomes DONE (R46, R170). -/
def State.hostDone (s : State) (r : Record) : State :=
  { (s.release r).modSlot r.slot fun k => { k with state := .done } with
    hostQueue := s.hostQueue.eraseP fun q => q.tag == r.tag }

theorem State.burstHost_eq (s : State) (r : Record) : s.burstHost r = (s.sampleWord r).hostDone r := by
  unfold State.burstHost State.hostDone
  simp

theorem State.hostDone_finished {r : Record} (hr : r ∈ s.hostQueue) : s.Finished (s.hostDone r) := by
  have hports : ∀ w, w ≠ .host → (s.hostDone r).queueOf w = s.queueOf w := by
    intro w hw
    cases w with
    | port c => simp [State.queueOf, State.hostDone]
    | host => exact absurd rfl hw
  refine ⟨?_, .of_released rfl rfl, fun c => by simp [State.hostDone], fun who => ?_, fun hd => ⟨[r], ?_, ?_⟩, fun hh k => ?_⟩
  · unfold State.hostDone; rw [State.release_eq]; rfl
  · by_cases hw : who = .host
    · subst hw; exact List.eraseP_sublist
    · rw [hports who hw]
  · exact State.outstanding_perm (who := .host) (perm_cons_eraseP (find?_tag (hd .host) hr)) hports
  · exact s.release_counts rfl
  · obtain ⟨l, hl, htag, -⟩ := hh.ofSlot r hr
    have hslot : r.slot = l := by simp [Record.slot, hl]
    have hget : ((s.hostDone r).host.slots.get k).state =
        if l = k then .done else (s.host.slots.get k).state := by
      simp only [State.hostDone, State.modSlot_get, State.release_host, hslot]
      split
      next h => rfl
      next => rfl
    rw [hget]
    by_cases hk : l = k
    · refine ⟨fun h => by simp [hk] at h, fun ⟨_, hall⟩ => ?_⟩
      have hmem : r ∈ s.hostQueue.eraseP fun q => q.tag == r.tag := hall r hr (hk ▸ hl)
      have hperm := perm_cons_eraseP (find?_tag hh.tagsDistinct hr)
      have hnodup := ((hperm.map Record.tag).nodup_iff).1 hh.tagsDistinct
      exact absurd (List.mem_map_of_mem hmem) (List.nodup_cons.1 hnodup).1
    · rw [if_neg hk]
      refine ⟨fun h => ⟨h, fun q hq ho => ?_⟩, And.left⟩
      refine (List.mem_eraseP_of_neg ?_).2 hq
      intro he
      obtain ⟨m, hm, hmt, -⟩ := hh.ofSlot q hq
      have hmk : m = k := Origin.slot.inj (hm.symm.trans ho)
      have : q.tag = r.tag := by simpa using he
      exact hk (Fin.ext (by rw [← htag, ← this, hmt, hmk]))

/-! ### Records in place -/

theorem Record.Succeeds.refl (r : Record) (who : Requester) : r.Succeeds r who :=
  ⟨rfl, rfl, rfl, rfl, rfl, id, fun _ h => ⟨h, rfl⟩⟩

theorem State.BankFollows.of_pins {k : Bank} (b : BankId) {n : Nat} (h : k = { s.banks.get b with pins := n }) :
    s.BankFollows b k := by
  subst h; exact .of_rows rfl rfl id

/-- The records of each queue change by a map under which none becomes ACTIVE. -/
theorem State.InPlace.of_map {f : Requester → Record → Record}
    (frame : t = { s with ports := t.ports, hostQueue := t.hostQueue, banks := t.banks, decided := t.decided })
    (banks : ∀ b, s.BankFollows b (t.banks.get b))
    (lines : ∀ p, (t.ports.get p).state ≠ .enabled → (s.ports.get p).state ≠ .enabled ∨ (s.ports.get p).queue = [])
    (hq : ∀ who, t.queueOf who = (s.queueOf who).map (f who)) (hf : ∀ who r, (f who r).Succeeds r who)
    (ha : ∀ who r, (f who r).isActive = true → r.isActive = true ∧ (f who r).bank = r.bank) : s.InPlace t where
  frame := frame
  banks := banks
  lines := lines
  active q hm hact := by
    obtain ⟨who, hw⟩ := State.mem_outstanding.1 hm
    rw [hq who] at hw
    obtain ⟨r, hr, rfl⟩ := List.mem_map.1 hw
    exact .inr ⟨r, State.mem_outstanding.2 ⟨who, hr⟩, (ha who r hact).1, (ha who r hact).2.symm⟩
  follow who _ := by
    rw [hq who, List.forall₂_map_right_iff, List.forall₂_same]
    exact fun r _ => hf who r

/-- The ports change but for their queues. -/
theorem State.InPlace.of_ports {v : Vector Port 4} {d : Bool} (hq : ∀ p, (v.get p).queue = (s.ports.get p).queue)
    (lines : ∀ p, (v.get p).state ≠ .enabled → (s.ports.get p).state ≠ .enabled ∨ (s.ports.get p).queue = []) :
    s.InPlace { s with ports := v, decided := d } :=
  .of_map (f := fun _ r => r) rfl .refl lines
    (fun who => by rw [State.queueOf_ports hq, List.map_id']) (fun who r => .refl r who) fun _ _ h => ⟨h, rfl⟩

/-- One port changes but for its queue. -/
theorem State.InPlace.of_port {p : PortId} {f : Port → Port} (hq : (f (s.ports.get p)).queue = (s.ports.get p).queue)
    (line : (f (s.ports.get p)).state ≠ .enabled → (s.ports.get p).state ≠ .enabled ∨ (s.ports.get p).queue = []) :
    s.InPlace (s.modPort p f) := by
  refine .of_ports (d := s.decided) (fun c => ?_) (fun c => ?_) <;> rw [get_put] <;> split
  next h => exact h ▸ hq
  next => rfl
  next h => exact h ▸ line
  next => exact .inl

theorem Record.grow_succeeds (r : Record) (who : Requester) : r.grow.Succeeds r who := by
  unfold Record.grow
  split
  · exact .refl r who
  · split
    · exact ⟨rfl, rfl, rfl, rfl, rfl, id, fun _ h => ⟨h, rfl⟩⟩
    · exact .refl r who

theorem Record.grow_isActive (r : Record) : r.grow.isActive = r.isActive ∧ r.grow.bank = r.bank := by
  obtain ⟨-, ha, hb, -⟩ := Record.pinKey_eq r.grow_pinKey
  exact ⟨ha, hb⟩

theorem Record.stallMore_succeeds (r : Record) (who : Requester) : r.stallMore.Succeeds r who := by
  unfold Record.stallMore
  split
  next h => exact ⟨rfl, rfl, rfl, rfl, rfl, id, fun _ hq => by simp [h] at hq⟩
  · exact .refl r who

theorem Record.stallMore_isActive (r : Record) : r.stallMore.isActive = r.isActive ∧ r.stallMore.bank = r.bank := by
  obtain ⟨-, ha, hb, -⟩ := Record.pinKey_eq r.stallMore_pinKey
  exact ⟨ha, hb⟩

theorem Record.suspend_succeeds (b : BankId) (r : Record) (who : Requester) : (r.suspend b).Succeeds r who := by
  unfold Record.suspend
  split
  next h =>
    refine ⟨rfl, rfl, rfl, rfl, rfl, id, fun _ hq => ?_⟩
    simp [Record.isActive, hq] at h
  · exact .refl r who

theorem State.grow_inPlace (s : State) : s.InPlace (s.mapRecords Record.grow) :=
  .of_map (f := fun _ => Record.grow) rfl .refl (fun p h => .inl (by simpa [Port.state] using h))
    (fun who => by cases who <;> simp [State.queueOf]) (fun who r => r.grow_succeeds who) fun _ r h => by
      rw [← r.grow_isActive.1]; exact ⟨h, r.grow_isActive.2⟩

theorem State.stallMore_inPlace (s : State) (p : PortId) :
    s.InPlace (s.modPort p fun k => { k with queue := k.queue.map Record.stallMore }) := by
  refine .of_map (f := fun who => if who = .port p then Record.stallMore else id) rfl .refl (fun c h => ?_)
    (fun who => ?_) (fun who r => ?_) fun who r => ?_
  · rw [State.modPort_get] at h
    split at h
    next hc => subst hc; exact .inl h
    next => exact .inl h
  · rw [State.modPort_queueOf]
    split
    next h => subst h; rfl
    next => rw [List.map_id]
  · split
    · exact r.stallMore_succeeds who
    · exact .refl r who
  · split
    · intro h
      rw [← r.stallMore_isActive.1]; exact ⟨h, r.stallMore_isActive.2⟩
    · exact fun h => ⟨h, rfl⟩

theorem State.suspendBank_inPlace (s : State) (b : BankId) : s.InPlace (s.suspendBank b) := by
  refine .of_map (f := fun _ => Record.suspend b) rfl (fun c => ?_)
    (fun p h => .inl (by simpa [Port.state] using h)) (s.suspendBank_queueOf b) (fun who r => r.suspend_succeeds b who)
    fun _ r h => ?_
  · rw [State.suspendBank_bank]
    split
    next hc => subst hc; exact .of_pins b rfl
    next => exact .refl c
  · have he := Record.suspend_of_active h
    rw [he] at h ⊢
    exact ⟨h, rfl⟩

/-- A client record's burst that is not its last (R46). -/
theorem State.advanceClient_inPlace {p : PortId} {r : Record} (hr : r ∈ (s.ports.get p).queue)
    (hlast : ¬r.length ≤ r.burstsDone + 1) (hd : (s.account r.bank).debt < 8) : s.InPlace (s.advanceClient p r) := by
  have hport : ∀ c, ((s.advanceClient p r).ports.get c).state = (s.ports.get c).state := by
    intro c
    have : (s.advanceClient p r).ports = (s.modPort p fun k => { k with
        queue := k.queue.map fun q => if q.tag == r.tag then r.moved else q }).ports := by
      unfold State.advanceClient; dsimp only; split <;> rfl
    rw [this, State.modPort_get]
    split
    next h => subst h; rfl
    next => rfl
  refine ⟨?_, fun b => .of_pins b (s.advanceClient_bank p r b), fun c h => .inl (hport c ▸ h), fun q hq ha => ?_,
    fun who hdist => ?_⟩
  · unfold State.advanceClient; dsimp only; split <;> rfl
  · obtain ⟨who, hw⟩ := State.mem_outstanding.1 hq
    rw [State.advanceClient_queueOf] at hw
    split at hw
    next hwho =>
      obtain ⟨x, hx, rfl⟩ := List.mem_map.1 hw
      split
      · exact .inl hd
      next hne =>
        rw [if_neg hne] at ha
        exact .inr ⟨x, State.mem_outstanding.2 ⟨.port p, hx⟩, ha, rfl⟩
    next => exact .inr ⟨q, State.mem_outstanding.2 ⟨who, hw⟩, ha, rfl⟩
  · rw [State.advanceClient_queueOf]
    split
    next hwho =>
      subst hwho
      refine List.forall₂_map_right_iff.2 (List.forall₂_same.2 fun x (hx : x ∈ (s.ports.get p).queue) => ?_)
      split
      next htag =>
        have hfind := find?_tag hdist hr
        have hxr : x = r := by
          have := find?_tag hdist hx
          rw [show x.tag = r.tag from by simpa using htag, hfind] at this
          exact (Option.some.inj this).symm
        subst hxr
        exact ⟨rfl, rfl, rfl, rfl, rfl, fun _ => by simp only [Record.moved]; omega, fun h => by cases h⟩
      next => exact .refl x _
    next => exact List.forall₂_same.2 fun x _ => .refl x who

/-! ### Filings (R39) -/

theorem State.fileClient_filed {p : PortId} {r : RequestFields} (i : Fin 16) (hs : s.mode.sched.running = true)
    (hp : (s.ports.get p).state = .enabled) (hroom : (s.ports.get p).queue.length < 8)
    (htag : ∀ q ∈ (s.ports.get p).queue, q.tag ≠ r.tag) (hlen : 0 < r.length) :
    s.Filed (s.fileClient p r i) (.port p) (clientRecord p r i s.stamp) := by
  have hget : ∀ c, (s.fileClient p r i).ports.get c =
      if p = c then { s.ports.get p with
        queue := (s.ports.get p).queue ++ [clientRecord p r i s.stamp]
        outbound := (s.ports.get p).outbound ++ [.accept r.tag] } else s.ports.get c := by
    intro c
    simp only [State.fileClient, State.notify, State.modPort_get, State.takeStamp_ports]
    split <;> simp
  refine ⟨rfl, hs, ?_, fun w hw => ?_, fun j => ?_, ⟨rfl, rfl, hlen⟩, fun c => ?_, fun c hc => ?_, fun h => by cases h⟩
  · simp [State.queueOf, hget]
  · cases w with
    | port c => simp [State.queueOf, hget, show p ≠ c from fun e => hw (e ▸ rfl)]
    | host => rfl
  · have : (s.fileClient p r i).regions = (s.modRegion i fun e => { e with refCount := e.refCount + 1 }).regions := rfl
    rw [this, State.modRegion_get]
    by_cases h : i = j <;> simp [clientRecord, h]
  · rw [hget]; split
    next h => subst h; rfl
    next => rfl
  · obtain rfl := Requester.port.inj hc
    exact ⟨hp, hroom, htag, fun k => rfl⟩

theorem State.fileHost_filed (s : State) (k : SlotId) (kind : Kind) (i : Fin 16) (hs : s.mode.sched.running = true)
    (hk : (s.host.slots.get k).state = .free) :
    s.Filed (s.fileHost k kind i) .host
      (hostRecord k kind (s.host.slots.get k).address (s.host.slots.get k).data i s.stamp) := by
  refine ⟨rfl, hs, rfl, fun w hw => ?_, fun j => ?_, ⟨rfl, rfl, Nat.one_pos⟩, fun c => rfl, fun c hc => (by cases hc),
    fun _ => ⟨k, rfl, rfl, rfl, rfl, hk, fun l => ?_⟩⟩
  · cases w with
    | port c => rfl
    | host => exact absurd rfl hw
  · have : (s.fileHost k kind i).regions = (s.modRegion i fun e => { e with refCount := e.refCount + 1 }).regions := rfl
    rw [this, State.modRegion_get]
    by_cases h : i = j <;> simp [hostRecord, h]
  · have : (s.fileHost k kind i).host = ((s.takeStamp i).modSlot k fun e => { e with state := .queued }).host := rfl
    rw [this, State.modSlot_get]
    split <;> rfl

end Sys2Proof.Machine
end

section
/-! PROOFS. Each happening as a sequence of moves, and with it every command: what every move keeps, every command keeps
and every step keeps. -/

-- One proof after another: a thread for each would reserve more memory than the check allows.
set_option Elab.async false

namespace Sys2Proof.Machine

variable {s t : State}

theorem storePost_sound {m : BitVec 8} {q : List Event} (h : EventQueue.Sound { records := q, mask := m }) (k : EventKind)
    (o : Source) (g : Option (Fin 16)) (d : Nat) :
    EventQueue.Sound { records := storePost q (.report k o g d), mask := m } := by
  by_cases hroom : q.length < 15
  · rw [storePost_of_room hroom]
    exact ⟨by simp; omega, fun h16 => by simp at h16; omega, fun n hn => h.counts n (by simpa using hn)⟩
  · by_cases hlast : ∃ n, q.getLast? = some (.overflow n)
    · obtain ⟨n, hn⟩ := hlast
      obtain ⟨older, rfl⟩ := List.getLast?_eq_some_iff.1 hn
      have hcount := h.counts n (by simp)
      have hlen := h.atMostSixteen
      simp only [List.length_append, List.length_singleton] at hroom hlen
      rw [storePost_on_overflow (by omega) hcount.2]
      refine ⟨by simpa using hlen, fun _ => ⟨_, List.getLast?_concat ..⟩, fun m hm => ?_⟩
      rcases List.mem_append.1 hm with hm | hm
      · exact h.counts m (List.mem_append_left _ hm)
      · obtain rfl : m = min (n + 1) 255 := by simpa using hm
        omega
    · have hnone : ∀ n, q.getLast? ≠ some (.overflow n) := fun n hn => hlast ⟨n, hn⟩
      have h16 : q.length ≠ 16 := fun h16 => hlast (h.sixteenth h16)
      have hlen := h.atMostSixteen
      dsimp only at hlen
      rw [storePost_begins_overflow (by omega) hnone]
      refine ⟨by simp; omega, fun _ => ⟨1, List.getLast?_concat ..⟩, fun m hm => ?_⟩
      rcases List.mem_append.1 hm with hm | hm
      · exact h.counts m hm
      · obtain rfl : m = 1 := by simpa using hm
        decide

/-- A post keeps the law of the event queue (R155). -/
theorem EventQueue.Sound.post (h : s.events.Sound) (k : EventKind) (o : Source) (g : Option (Fin 16)) (d : Nat) :
    (s.post k o g d).events.Sound := by
  rw [State.post_events]
  split
  · exact storePost_sound h k o g d
  · exact h

/-- A remainder of the queue keeps its law. -/
theorem EventQueue.Sound.suffix {q : EventQueue} (h : q.Sound) {l : List Event} (hl : l <:+ q.records) (m : BitVec 8) :
    EventQueue.Sound { records := l, mask := m } where
  atMostSixteen := hl.length_le.trans h.atMostSixteen
  sixteenth h16 := by
    have : l = q.records := hl.eq_of_length (le_antisymm hl.length_le (h16 ▸ h.atMostSixteen))
    subst this
    exact h.sixteenth h16
  counts n hn := h.counts n (hl.subset hn)

/-- A page that passes the checks is valid (R136). -/
theorem Page.valid_of_detail {p : Page} (h : s.validationDetail p = 0) : p.Valid := by
  unfold State.validationDetail at h
  split_ifs at h with h1 h2 h3
  refine ⟨by omega, by omega, ?_⟩
  obtain ⟨o, ho, how⟩ := List.any_eq_true.1 (Bool.not_eq_false _ ▸ Bool.not_eq_true' _ ▸ h3)
  exact ⟨o, ho, by simpa using how⟩

/-- A REQUEST that passes its checks is filed in a running state, with room and a tag of its own (R36). -/
theorem State.clientRefusal_none {p : PortId} {r : RequestFields} (hn : s.clientRefusal p r = none) :
    s.mode.sched.running = true ∧ (∀ q ∈ (s.ports.get p).queue, q.tag ≠ r.tag) ∧ (s.ports.get p).queue.length < 8 := by
  unfold State.clientRefusal at hn
  split at hn
  · cases hn
  next hsched =>
    split_ifs at hn with htag hlen
    refine ⟨?_, by simpa using htag, by omega⟩
    revert hsched
    cases s.mode.sched <;> simp [schedRefusal, SchedState.running]

theorem ifInRange_some {lo hi v : Nat} {p q : Page} (h : ifInRange lo hi v p = some q) : q = p ∧ lo ≤ v ∧ v ≤ hi := by
  unfold ifInRange at h
  split_ifs at h with hv
  exact ⟨(Option.some.inj h).symm, hv⟩

/-- A field takes a value within its range alone (R132). -/
theorem Page.InRange.withField {p q : Page} {i v : Nat} (hp : p.InRange) (hq : p.withField i v = some q) : q.InRange := by
  unfold Page.withField at hq
  split at hq
  case h_13 =>
    obtain ⟨c, -, rfl⟩ := Option.map_eq_some_iff.1 hq
    exact { hp with }
  case h_15 =>
    split_ifs at hq
    obtain ⟨o, -, rfl⟩ := Option.map_eq_some_iff.1 hq
    exact { hp with }
  all_goals
    obtain ⟨rfl, hv⟩ := ifInRange_some hq
    cases hp
    constructor <;> assumption

theorem parseFrame_length {frame : List Byte} {r : RequestFields} (h : parseFrame frame = .request r) : 0 < r.length := by
  unfold parseFrame at h
  split at h
  · cases h
  · split_ifs at h
    · split at h
      · cases h
        exact Nat.succ_pos _
      · cases h
    · split at h <;> cases h

namespace Law

variable {I : State → Prop} (L : Law I)

include L

/-! ### Posts, command status, notices, windows -/

theorem post (h : I s) (k : EventKind) (o : Source) (g : Option (Fin 16)) (d : Nat) : I (s.post k o g d) := by
  rw [State.post_eq]
  exact L.events _ _ (fun hs => hs.post k o g d) h

/-- What no law reads changes. -/
theorem same (h : I s) (ht : t = { s with
      host := t.host, bus := t.bus, history := t.history, decided := t.decided, freeCount := t.freeCount }) (hk : ∀ k, (t.host.slots.get k).state = (s.host.slots.get k).state) : I t :=
  L.other s t ht (fun k => by rw [hk k]) h

theorem setResult (h : I s) (r : Result) : I (s.setResult r) := L.same h rfl fun _ => rfl

theorem drive (h : I s) (c : DramCommand) : I (s.drive c) := L.same h rfl fun _ => rfl

theorem settleDrain (h : I s) : I s.settleDrain := by
  unfold State.settleDrain
  split
  next hd => exact L.post (L.sched s .held (by simp [hd.1, SchedState.running]) rfl (by simp) h) ..
  · exact h

theorem port (h : I s) {p : PortId} {f : Port → Port} (hq : (f (s.ports.get p)).queue = (s.ports.get p).queue)
    (hl : (f (s.ports.get p)).state ≠ .enabled → (s.ports.get p).state ≠ .enabled ∨ (s.ports.get p).queue = []) :
    I (s.modPort p f) := L.inPlace _ _ (.of_port hq hl) h

theorem notify (h : I s) (p : PortId) (n : Notice) : I (s.notify p n) := L.port h rfl .inl

theorem markTaken (h : I s) (p : PortId) : I (s.markTaken p) := L.port h rfl .inl

theorem beginWindow (h : I s) : I s.beginWindow := by
  rw [State.beginWindow_eq]
  refine L.inPlace _ _ (.of_ports s.beginWindow_queue fun p hp => .inl ?_) h
  obtain ⟨he, hr, -⟩ := s.beginWindow_port_keeps p
  simpa [Port.state, he, hr] using hp

theorem inWindow (h : I s) (n : Bool) : I (s.inWindow n) := by
  cases n
  · exact h
  · exact L.beginWindow h

theorem sampleReady (h : I s) (ready : BitVec 4) : I (s.sampleReady ready) :=
  L.inPlace _ _ (.of_ports (d := s.decided) (fun p => by simp) fun p hp => .inl (by simpa [Port.state] using hp)) h

/-! ### Finishes, ports, messages -/

theorem finishClient (h : I s) {p : PortId} {r q : Record} (hq : q ∈ (s.ports.get p).queue) (htag : q.tag = r.tag)
    (hr : q.region = r.region) (st : FinishStatus) : I (s.finishClient p r st) :=
  L.finish _ _ (State.finishClient_finished hq htag hr st) h

theorem emptyPort (h : I s) (p : PortId) (f : List Record → List Notice) : I (s.emptyPort p f) :=
  L.finish _ _ (s.emptyPort_finished p f) h

theorem selectPort (h : I s) (p : PortId) : I (s.selectPort p) := L.same h rfl fun _ => rfl

theorem enablePort (h : I s) (p : PortId) : I (s.enablePort p) :=
  L.port h rfl fun hp => .inl fun he => hp (by
    have hr : (s.ports.get p).prst = false := by
      by_contra hr
      rw [(Port.state_eq_inReset_iff _).2 (by simpa using hr)] at he
      cases he
    simp [Port.state, hr])

theorem disablePort (h : I s) (p : PortId) : I (s.disablePort p) := by
  have hempty : ((s.flushPort p).ports.get p).queue = [] := by simp [State.flushPort, State.emptyPort_get]
  unfold State.disablePort
  split
  · exact L.settleDrain (L.port (L.emptyPort h p _) rfl fun _ => .inr hempty)
  next hne => exact L.port h rfl fun _ => .inl fun he => hne he

theorem assertPrst (h : I s) (p : PortId) : I (s.assertPrst p) := by
  have hempty : ((s.silencePort p).ports.get p).queue = [] := by simp [State.silencePort, State.emptyPort_get]
  unfold State.assertPrst
  split
  · exact h
  · exact L.settleDrain (L.port (L.emptyPort h p _) rfl fun _ => .inr hempty)

theorem deassertPrst (h : I s) (p : PortId) : I (s.deassertPrst p) :=
  L.port h rfl fun hp => .inl fun he => hp (by
    unfold Port.state at he
    split_ifs at he with hr hen
    simp [Port.state, hen])

theorem portControlWrite (h : I s) (p : PortId) (action : Nat) : I (s.portControlWrite p action) := by
  have hs := L.selectPort h p
  unfold State.portControlWrite
  split
  · exact L.enablePort hs p
  · exact L.disablePort hs p
  · exact hs

theorem postDenied (h : I s) (who : Requester) (g : Fin 16) (o : Source) (reason : Reason) :
    I (s.postDenied who g o reason) := L.post h ..

theorem admitClient (h : I s) {p : PortId} {r : RequestFields} (hp : (s.ports.get p).state = .enabled)
    (hlen : 0 < r.length) : I (s.admitClient p r) := by
  unfold State.admitClient
  split
  · exact L.notify h ..
  next hn =>
    obtain ⟨hs, htag, hroom⟩ := State.clientRefusal_none hn
    split
    · exact L.file _ _ _ _ (State.fileClient_filed _ hs hp hroom htag hlen) h
    all_goals exact L.notify (L.postDenied h ..) ..

theorem cancelTag (h : I s) (p : PortId) (g : Fin 16) : I (s.cancelTag p g) := by
  unfold State.cancelTag
  split
  next r hr => exact L.settleDrain (L.finishClient h (List.mem_of_find?_eq_some hr) rfl rfl .cancelled)
  · exact h

theorem discardFrame (h : I s) (p : PortId) (code : Byte) : I (s.discardFrame p code) := L.post h ..

theorem takeMessage (h : I s) {p : PortId} {enabled : Bool} (he : enabled = true → (s.ports.get p).state = .enabled)
    {f : Frame} (hf : ∀ r, f = .request r → 0 < r.length) : I (s.takeMessage p enabled f) := by
  have hm := L.markTaken h p
  cases f with
  | request r =>
    simp only [State.takeMessage]
    split
    next hen => exact L.admitClient hm (by rw [State.markTaken, State.modPort_get_self]; exact he hen) (hf r rfl)
    · exact L.notify hm ..
  | cancel g =>
    simp only [State.takeMessage]
    split
    · exact L.cancelTag hm p g
    · exact hm
  | unknown code => exact L.discardFrame hm p code
  | short code => exact L.discardFrame h p code

theorem takeFrame (h : I s) (p : PortId) (frame : List Byte) : I (s.takeFrame p frame) := by
  have hlen : ∀ r, parseFrame frame = .request r → 0 < r.length := fun _ => parseFrame_length
  unfold State.takeFrame
  split
  · exact h
  next he =>
    split
    · exact L.discardFrame h p _
    · exact L.takeMessage h (fun _ => he) hlen
  next =>
    split
    · exact L.discardFrame h p _
    · exact L.takeMessage h (by simp) hlen

theorem receive (h : I s) (p : PortId) (a : Arrival) : I (s.receive p a) := by
  have ha := L.inWindow h a.inNextWindow
  unfold State.receive
  split
  · exact ha
  · exact L.takeFrame ha p a.bytes

/-! ### The host's slots -/

/-- A slot changes, and is QUEUED after it if it was before. -/
theorem slot (h : I s) {k : SlotId} {f : Slot → Slot}
    (hk : (f (s.host.slots.get k)).state = .queued ↔ (s.host.slots.get k).state = .queued) : I (s.modSlot k f) := by
  refine L.other _ _ rfl (fun l => ?_) h
  rw [State.modSlot_get]
  split
  next hl => exact hl ▸ hk
  next => rfl

theorem failSlot (h : I s) {k : SlotId} (hk : (s.host.slots.get k).state = .free) (reason : Reason) :
    I (s.failSlot k reason) := L.slot h (by simp [hk])

theorem admitHost (h : I s) {k : SlotId} (hk : (s.host.slots.get k).state = .free) (kind : Kind) :
    I (s.admitHost k kind) := by
  have hdenied : ∀ g o reason, I ((s.postDenied .host g o reason).failSlot k reason) := fun g o reason =>
    L.failSlot (L.postDenied h ..) (by rw [State.postDenied, State.post_host]; exact hk) reason
  unfold State.admitHost
  dsimp only
  split
  · exact L.failSlot h hk _
  next hn =>
    have hs : s.mode.sched.running = true := by
      revert hn; cases s.mode.sched <;> simp [schedRefusal, SchedState.running]
    split
    · exact L.file _ _ _ _ (s.fileHost_filed k kind _ hs hk) h
    all_goals exact hdenied ..

theorem go (h : I s) (k : SlotId) (kind : Kind) : I (s.go k kind) := by
  unfold State.go
  split
  next hk =>
    refine L.setResult (L.admitHost (L.slot h (f := fun e => { e with kind := kind }) Iff.rfl) ?_ kind) _
    rw [State.modSlot_get_self]
    exact hk
  · exact L.setResult h _

theorem ackSlot (h : I s) (k : SlotId) : I (s.ackSlot k) := by
  unfold State.ackSlot
  split
  · exact L.setResult h _
  · exact L.setResult h _
  next hk => exact L.setResult (L.slot h (by simp [hk])) _
  next hk => exact L.setResult (L.slot h (by simp [hk])) _

/-! ### Mode control -/

theorem startCommand (h : I s) : I (State.start s) := by
  unfold State.start
  split
  next hs => exact L.setResult (L.start s hs h) _
  · exact L.setResult h _

theorem hold (h : I s) : I (State.hold s) := by
  unfold State.hold
  split
  next hs => exact L.setResult (L.settleDrain (L.sched s _ (by rw [hs]; rfl) rfl (by simp) h)) _
  · exact L.setResult h _
  · exact L.setResult h _

theorem resume (h : I s) : I (State.resume s) := by
  unfold State.resume
  split
  next hs => exact L.setResult (L.sched s _ (by rw [hs]; rfl) rfl (by simp) h) _
  next hs => exact L.setResult (L.sched s _ (by rw [hs]; rfl) rfl (by simp) h) _
  · exact L.setResult h _

theorem beginSwitch (h : I s) (hs : s.mode.sched.running = true) (ret : ReturnState) : I (s.beginSwitch ret) := by
  unfold State.beginSwitch
  split
  next hd => exact L.setResult (L.sched s _ hs rfl (fun _ _ => Page.valid_of_detail hd) h) _
  · exact L.same h rfl fun _ => rfl

theorem switch (h : I s) : I s.switch := by
  unfold State.switch
  split
  next hs =>
    unfold State.switchStopped
    split
    next hd => exact L.setResult (L.post (L.flipPages s (.inl ⟨hs, Page.valid_of_detail hd⟩) h) ..) _
    · exact L.same h rfl fun _ => rfl
  · exact L.setResult h _
  next hs => exact L.beginSwitch h (by rw [hs]; rfl) _
  next hs => exact L.beginSwitch h (by rw [hs]; rfl) _
  · exact L.setResult h _
  · exact L.setResult h _

theorem pageCopy (h : I s) : I (State.pageCopy s) := by
  unfold State.pageCopy
  split
  · exact L.setResult h _
  next hs => exact L.setResult (L.editPage s _ (fun ret hr => hs ret hr) (fun hp => hp.1 _) h) _

/-- The rest of SOFT_RESET in a running state, once every queue is flushed (R151). -/
theorem softResetRunning (h : I s) (hs : s.mode.sched.running = true) : I s.softResetRunning := by
  have hports : I (allPorts.foldl State.flushPort s) :=
    foldl_induct I State.flushPort (fun u p hu => L.emptyPort hu p _) _ _ h
  have hmode : (allPorts.foldl State.flushPort s).mode = s.mode :=
    foldl_keeps State.mode State.flushPort (fun u p => u.emptyPort_mode p _) _ _
  have hflushed := L.finish _ _ (State.flushHost_finished _) hports
  have hrun : (allPorts.foldl State.flushPort s).flushHost.mode.sched.running = true := by
    rw [State.flushHost_mode, hmode]; exact hs
  unfold State.softResetRunning
  generalize (allPorts.foldl State.flushPort s).flushHost = u at hflushed hrun ⊢
  have hbanks : I { u with banks := u.banks.map Bank.markClosePending } := by
    refine L.banks u _ (fun b => ?_) hflushed
    rw [get_map]
    unfold Bank.markClosePending
    split
    next ho => exact ⟨.inr (.inl ⟨rfl, rfl⟩), fun _ => .inl ho⟩
    · exact .refl b
  have harb := L.arbiter _ { u.arbiter with wheelPosition := 0, wrapHanded := false } (.inr (.inl rfl)) hbanks
  have hidle := (L.idle _ · harb) hrun
  have hev := (L.events _ { u.events with records := [] } · hidle) fun hq => hq.suffix (List.nil_suffix ..) _
  exact (L.sched _ .held · rfl (by simp) hev) hrun

theorem softReset (h : I s) : I s.softReset := by
  unfold State.softReset
  split
  next hs => exact L.setResult (L.softResetIdle s (.inl hs) h) _
  next hs => exact L.setResult (L.softResetIdle s (.inr hs) h) _
  next h1 h2 =>
    refine L.setResult (L.softResetRunning h ?_) _
    revert h1 h2
    cases s.mode.sched <;> simp [SchedState.running]

/-! ### Tables -/

theorem writeRegion (h : I s) : I s.writeRegion := by
  unfold State.writeRegion
  dsimp only
  split
  · split
    · exact L.setResult h _
    · split_ifs with hv ho hb
      · exact L.setResult h _
      · exact L.setResult h _
      · exact L.setResult h _
      · exact L.setResult (L.commitRegion s _ _ _ (by simpa using hv) (by simpa using ho) h) _
  · exact L.setResult h _

theorem writeRemap (h : I s) : I s.writeRemap := by
  unfold State.writeRemap
  dsimp only
  split
  · exact L.setResult h _
  · split
    · split
      · exact L.setResult h _
      next hn => exact L.setResult (L.commitRemap s _ _ hn h) _
    · exact L.setResult h _

theorem writePage (h : I s) : I s.writePage := by
  unfold State.writePage
  split
  · exact L.setResult h _
  next hs =>
    split
    · exact L.setResult h _
    · split
      · exact L.setResult h _
      next page hpage =>
        exact L.setResult (L.editPage s page (fun ret hr => hs ret hr) (fun hp => (hp.1 _).withField hpage) h) _

theorem tableWrite (h : I s) : I s.tableWrite := by
  unfold State.tableWrite
  split_ifs
  · exact L.writeRegion h
  · exact L.writeRemap h
  · exact L.writePage h

theorem eventPop (h : I s) : I s.eventPop := by
  unfold State.eventPop
  split
  · exact L.setResult h _
  next hq =>
    exact L.setResult (L.events s _ (fun hs => hs.suffix (l := _) (hq ▸ List.suffix_cons ..) _) h) _

/-! ### The host's registers -/

theorem commandWrite (h : I s) (code : Nat) : I (s.commandWrite code) := by
  unfold State.commandWrite
  split
  · exact L.startCommand h
  · exact L.hold h
  · exact L.resume h
  · exact L.switch h
  · exact L.pageCopy h
  · exact L.softReset h
  · exact L.tableWrite h
  · exact L.eventPop h
  · exact L.setResult h _

theorem writeMask (h : I s) (m : BitVec 8) : I (s.writeMask m) :=
  L.events s _ (fun hs => hs.suffix List.suffix_rfl m) h

theorem hostWrite (h : I s) (a : BitVec 5) (w : Word) : I (s.hostWrite a w) := by
  unfold State.hostWrite
  split
  · exact L.commandWrite h _
  · exact L.portControlWrite h _ _
  · exact L.same h rfl fun _ => rfl
  · exact L.writeMask h _
  iterate 6 exact L.same h rfl fun _ => rfl
  · dsimp only
    split
    · split
      · exact L.slot h Iff.rfl
      · exact L.slot h Iff.rfl
      · exact L.slot h Iff.rfl
      · unfold State.slotControlWrite
        split
        · exact L.go h _ _
        · exact L.go h _ _
        · exact L.ackSlot h _
        · exact h
    · exact h

/-! ### The bank timers and the refill -/

theorem bank (h : I s) {b : BankId} {f : Bank → Bank} (hb : s.BankFollows b (f (s.banks.get b))) : I (s.modBank b f) :=
  L.banks s _ (State.bankFollows_put hb) h

theorem openDelayExpiry (h : I s) (b : BankId) : I (s.openDelayExpiry b) := by
  unfold State.openDelayExpiry
  split
  next hs => exact L.bank h (.of_rows (by simp [Bank.openRow?, hs]) (by simp [Bank.physRow?, hs]) id)
  · exact h

theorem closeDelayExpiry (h : I s) (b : BankId) : I (s.closeDelayExpiry b) := by
  unfold State.closeDelayExpiry
  split
  next hs => exact L.bank h (.of_rows (by simp [Bank.openRow?, hs]) (by simp [Bank.physRow?, hs]) id)
  · exact h

theorem refreshTimeExpiry (h : I s) (b : BankId) : I (s.refreshTimeExpiry b) := by
  unfold State.refreshTimeExpiry
  split
  next hs =>
    have hc := L.bank h (b := b) (f := fun k => { k with state := .closed })
      (.of_rows (by simp [Bank.openRow?, hs]) (by simp [Bank.physRow?, hs]) id)
    dsimp only
    split
    next ht => exact L.post ((L.endConditioning _ · hc) ht.1) ..
    · exact hc
  · exact h

theorem rowMinExpiry (h : I s) (b : BankId) : I (s.rowMinExpiry b) := by
  unfold State.rowMinExpiry
  split
  · exact L.bank h (.of_rows rfl rfl id)
  · exact h

theorem writeRecoveryExpiry (h : I s) (b : BankId) : I (s.writeRecoveryExpiry b) := by
  unfold State.writeRecoveryExpiry
  split
  · exact L.bank h (.of_rows rfl rfl id)
  · exact h

theorem bankRunOuts (h : I s) (b : BankId) : I (s.bankRunOuts b) :=
  L.writeRecoveryExpiry (L.rowMinExpiry (L.refreshTimeExpiry (L.closeDelayExpiry (L.openDelayExpiry h b) b) b) b) b

theorem conditioningEnd (h : I s) : I s.conditioningEnd := by
  unfold State.conditioningEnd
  split
  · exact L.refreshTimeExpiry h 3
  · exact h

theorem refill (h : I s) : I s.refill := by
  unfold State.refill
  split
  · refine L.credit s _ (fun hc => ?_) h
    unfold State.CreditInRange at hc
    dsimp only [CreditBucket.refilled]
    split <;> omega
  · exact h

theorem intervalExpiry (h : I s) : I s.intervalExpiry := by
  unfold State.intervalExpiry
  split
  · exact L.takeExpiry s h
  · exact h

theorem takeDue (h : I s) : I s.takeDue :=
  L.intervalExpiry (L.refill (foldl_induct I State.bankRunOuts (fun _ b hu => L.bankRunOuts hu b) _ _ h))

/-! ### The command of a window -/

theorem takeCredit (h : I s) : I s.takeCredit :=
  L.credit s _ (fun hc => (Nat.sub_le ..).trans hc) h

theorem issueOpen (h : I s) {b : BankId} {row : Fin 2048} : I (s.issueOpen b row) :=
  L.drive (L.takeCredit (L.bank h ⟨.inr (.inr ⟨row, rfl, rfl⟩), fun _ => .inl rfl⟩)) _

theorem issueClose (h : I s) (b : BankId) : I (s.issueClose b) :=
  L.drive (L.bank h (.of_none rfl (by simp))) _

theorem beginRefresh (h : I s) {b : BankId} (hb : (s.banks.get b).state = .closed) : I (s.beginRefresh b) :=
  L.takeCredit (L.bank h (.of_none rfl fun hc => ⟨hc, by simp [Bank.openRow?, hb]⟩))

theorem issueRefresh (h : I s) {b : BankId} (hb : (s.banks.get b).state = .closed) (hd : -4 < (s.account b).debt) :
    I (s.issueRefresh b) :=
  L.payRefresh _ b hd (L.same (L.drive (L.beginRefresh h hb) _) rfl fun _ => rfl)

theorem issueConditioning (h : I s) {b : BankId} (hs : s.mode.sched = .init) {n : Nat}
    (hn : s.refresh.conditioning = .conditioning n) (hb : (s.banks.get b).state = .closed) :
    I (s.issueConditioning b) := by
  refine L.condition _ _ hs ?_ ?_ (L.drive (L.beginRefresh h hb) (.refresh b 0))
  · change s.refresh.conditioning.next ≠ .idle
    rw [hn, Conditioning.next]; split <;> simp
  · change ∀ m, s.refresh.conditioning.next = .conditioning m → m < 32
    rw [hn, Conditioning.next]
    intro m hm
    split at hm
    · obtain rfl := Conditioning.conditioning.inj hm; assumption
    · cases hm

theorem issueCloseAll (h : I s) (hs : s.mode.sched = .init) : I s.issueCloseAll := by
  have hb : I { s with banks := s.banks.map (Bank.closeAll s.runPage) } :=
    L.banks s _ (fun b => by rw [get_map]; exact .of_none rfl (by simp [Bank.closeAll])) h
  exact L.drive ((L.condition _ (.conditioning 0) · (by simp) (fun n hn => by cases hn; decide) hb) hs) _

theorem moveBurst (h : I s) (r : Record) (drive : Option BurstData) : I (s.moveBurst r drive) := by
  unfold State.moveBurst
  dsimp only
  split
  · exact L.drive h _
  · exact L.dram _ _ (fun hm => Dram.storeBurst_wf hm ..) (L.drive (L.bank h (.of_rows rfl rfl id)) _)

theorem burstClient (h : I s) {p : PortId} {r : Record} (hr : r ∈ (s.ports.get p).queue)
    (hd : (s.account r.bank).debt < 8) : I (s.burstClient p r) := by
  have hn := L.notify h p (.beat r.tag r.burstsDone)
  have hr' : r ∈ ((s.notify p (.beat r.tag r.burstsDone)).ports.get p).queue := by simpa using hr
  unfold State.burstClient
  dsimp only
  split
  · exact L.finishClient hn (r := { r with burstsDone := r.burstsDone + 1 }) hr' rfl rfl .ok
  next hlast => exact L.inPlace _ _ (State.advanceClient_inPlace hr' hlast hd) hn

theorem sampleWord (h : I s) (r : Record) : I (s.sampleWord r) := by
  unfold State.sampleWord
  split
  · exact h
  · split
    · exact L.slot h Iff.rfl
    · exact L.same (L.slot h (k := r.slot) (f := fun k => { k with data := Config.undefinedWord s.freeCount }) Iff.rfl)
        rfl fun _ => rfl

theorem burstHost (h : I s) {r : Record} (hr : r ∈ s.hostQueue) : I (s.burstHost r) := by
  have hqueue : (s.sampleWord r).hostQueue = s.hostQueue :=
    congrFun (State.pinBook_eq (s.sampleWord_pinBook r)).1 .host
  rw [State.burstHost_eq]
  exact L.finish _ _ (State.hostDone_finished (by rw [hqueue]; exact hr)) (L.sampleWord h r)

theorem issueBurst (h : I s) {who : Requester} {r : Record} (hr : r ∈ s.queueOf who)
    (hd : (s.account r.bank).debt < 8) (drive : Option BurstData) : I (s.issueBurst who r drive) := by
  have hm := L.moveBurst h r drive
  have hr' : r ∈ (s.moveBurst r drive).queueOf who := s.moveBurst_queueOf r drive ▸ hr
  cases who with
  | port p =>
    refine L.burstClient hm hr' ?_
    have : (s.moveBurst r drive).refresh = s.refresh := by unfold State.moveBurst; dsimp only; split <;> rfl
    simpa [State.account, this] using hd
  | host => exact L.burstHost hm hr'

theorem issue (h : I s) {a : Action} (hg : s.Grants a) (drive : Option BurstData) : I (s.issue drive a) := by
  cases a with
  | closeAll => exact L.issueCloseAll h hg.1
  | condition b =>
    obtain ⟨hs, ⟨n, hn, -⟩, hb, -⟩ := hg
    exact L.issueConditioning h hs hn hb
  | refresh b =>
    obtain ⟨-, hb, -, hd, -⟩ := hg
    exact L.issueRefresh h hb hd
  | close b => exact L.issueClose h b
  | openFor b row => exact L.issueOpen h
  | burst who r =>
    obtain ⟨-, ⟨-, -, hd, -⟩, older, younger, hq, -⟩ := hg
    exact L.issueBurst h (by rw [hq]; simp) hd drive

theorem decide (h : I s) (drive : Option BurstData) : I (s.decide drive) := by
  unfold State.decide
  split
  · exact L.same h rfl fun _ => rfl
  next x hx => exact L.arbiter _ _ (.inl rfl) (L.issue h (State.choose_grants hx) drive)

/-! ### The wheel, the stall counts, a whole window -/

theorem takeFlip (h : I s) {ret : ReturnState} (hs : s.mode.sched = .drainSwitch ret) : I (s.takeFlip ret) := by
  have hf := L.flipPages s (.inr ⟨ret, hs⟩) h
  have hsched : ∀ u : State, u.mode.sched = .drainSwitch ret → I u → I (u.setSched ret.sched).postSwitchDone := by
    intro u hu hi
    exact L.post (L.sched u _ (by rw [hu]; rfl) (by cases ret <;> rfl) (by cases ret <;> simp [ReturnState.sched]) hi) ..
  unfold State.takeFlip
  dsimp only
  split
  · refine hsched _ ?_ (L.takeExpiry _ hf)
    rw [State.takeExpiry_eq]
    exact hs
  · exact hsched _ hs hf

theorem testWrap (h : I s) : I s.testWrap := by
  have ht := L.arbiter s { s.arbiter with wrapHanded := false } (.inl rfl) h
  unfold State.testWrap
  dsimp only
  split
  · split
    next hs =>
      split
      · exact L.takeFlip ht hs
      · exact ht
    · exact ht
  · exact h

theorem advanceWheel (h : I s) : I s.advanceWheel := by
  unfold State.advanceWheel
  split
  next hw => exact L.arbiter s _ (.inr (.inr hw)) h
  · exact L.testWrap (L.arbiter s _ (.inr (.inl rfl)) h)

theorem abortRecord (h : I s) {p : PortId} {r : Record} (hr : r ∈ (s.ports.get p).queue) :
    I (State.abortRecord p s r) := L.post (L.finishClient h hr rfl rfl .stalled) ..

/-- The aborts of records that stand in the queue in this order: each leaves the others in it. -/
theorem abortAll {p : PortId} {l : List Record} (h : I s) (hl : l.Sublist (s.ports.get p).queue) :
    I (l.foldl (State.abortRecord p) s) := by
  induction l generalizing s with
  | nil => exact h
  | cons r l ih =>
    refine ih (L.abortRecord h (hl.subset List.mem_cons_self)) ?_
    rw [State.abortRecord_queue]
    simpa using hl.eraseP (p := fun q => q.tag == r.tag)

theorem stallPort (h : I s) (p : PortId) : I (s.stallPort p) := by
  unfold State.stallPort
  dsimp only
  split
  · exact h
  · exact L.abortAll (L.inPlace _ _ (s.stallMore_inPlace p) h) List.filter_sublist

theorem stallAbort (h : I s) (p : PortId) (g : Fin 16) : I (s.stallAbort p g) := by
  unfold State.stallAbort
  split
  next r hr =>
    split
    · refine L.settleDrain (L.abortRecord (L.port (L.beginWindow h) rfl .inl) ?_)
      simpa [s.beginWindow_queue p] using List.mem_of_find?_eq_some hr
    · exact h
  · exact h

theorem endWindow (h : I s) : I s.endWindow := by
  have hports : I { s with ports := s.ports.map Port.tick, decided := true } :=
    L.inPlace _ _ (.of_ports (fun p => by simp [Port.tick]) fun p hp => .inl (by simpa [Port.tick, Port.state] using hp)) h
  have hbanks := L.banks _ (s.banks.map Bank.tick) (fun b => by
    rw [get_map]
    refine .of_rows ?_ ?_ id
    · unfold Bank.openRow? Bank.tick; cases (s.banks.get b).state <;> rfl
    · unfold Bank.physRow? Bank.tick; cases (s.banks.get b).state <;> rfl) hports
  have hcredit := (L.credit _ (s.credit.tick s.runPage.refillPeriod) · hbanks) id
  exact L.elapsed _ _ hcredit

theorem window (h : I s) (ready : BitVec 4) (drive : Option BurstData) : I (s.window ready drive) := by
  have hwheel := L.advanceWheel (L.decide (L.sampleReady (L.beginWindow h) ready) drive)
  have hgrown := L.inPlace _ _ (State.grow_inPlace _) hwheel
  have hstalled := foldl_induct I State.stallPort (fun _ p hu => L.stallPort hu p) allPorts _ hgrown
  exact L.endWindow (L.takeDue (L.settleDrain hstalled))

/-! ### Every command, every step -/

theorem resetLine (h : I s) (asserted : Bool) : I (s.resetLine asserted) := by
  unfold State.resetLine
  split
  · exact L.powerOn s true h
  · split
    · exact L.powerOn s false h
    · exact h

theorem after (h : I s) (c : Instr) : I (s.after c) := by
  cases c with
  | powerOnReset asserted => exact L.resetLine h asserted
  | prstAssert p => exact L.assertPrst h p
  | prstDeassert p => exact L.deassertPrst h p
  | start => exact L.startCommand h
  | hold => exact L.hold h
  | resume => exact L.resume h
  | switch n => exact L.switch (L.inWindow h n)
  | pageCopy => exact L.pageCopy h
  | softReset n => exact L.softReset (L.inWindow h n)
  | tableWriteRegion => exact L.tableWrite h
  | tableWriteRemap => exact L.tableWrite h
  | tableWritePage => exact L.tableWrite h
  | eventPop => exact L.eventPop h
  | unknownCommand code => exact L.commandWrite h _
  | goRead k => exact L.go h k _
  | goWrite k => exact L.go h k _
  | ack k => exact L.ackSlot h k
  | portEnable p => exact L.portControlWrite h p 1
  | portDisable p n => exact L.portControlWrite (L.inWindow h n) p 2
  | portSelect p => exact L.selectPort h p
  | bankStatusSelect b view => exact L.same h rfl fun _ => rfl
  | interruptEnableWrite enables => exact L.same h rfl fun _ => rfl
  | eventEnableWrite mask => exact L.writeMask h mask
  | registerWrite a w n => exact L.hostWrite (L.inWindow h n) a w
  | request p frame => exact L.receive h p frame
  | cancel p frame => exact L.receive h p frame
  | discardedFrame p frame => exact L.receive h p frame
  | windowDecision ready drive => exact L.window h ready drive
  | openDelayExpiry b => exact L.openDelayExpiry h b
  | closeDelayExpiry b => exact L.closeDelayExpiry h b
  | refreshTimeExpiry b => exact L.refreshTimeExpiry h b
  | rowMinExpiry b => exact L.rowMinExpiry h b
  | writeRecoveryExpiry b => exact L.writeRecoveryExpiry h b
  | refill => exact L.refill h
  | intervalExpiry => exact L.intervalExpiry h
  | stallAbort p g => exact L.stallAbort h p g
  | drainComplete => exact L.settleDrain h
  | flip => exact L.testWrap h
  | conditioningEnd => exact L.conditioningEnd h

/-- What every move keeps, every step keeps, if it does not read the waiting commands. -/
theorem step (h : I s) (hstep : Machine.step s = .next t)
    (hp : ∀ (s : State) q, I s → I { s with pending := q } := by exact fun _ _ h => h) : I t :=
  step_keeps hp (fun c _ hs => L.after hs c) h hstep

end Law

end Sys2Proof.Machine
end

section
/-! PROOFS. The laws of a sound state: each holds at reset, and every step keeps it, because every move does. -/

-- One proof after another: a thread for each would reserve more memory than the check allows.
set_option Elab.async false

namespace Sys2Proof.Machine

variable {s t : State}

/-! ### Right after reset -/

theorem Page.default_inRange : Page.default.InRange := by
  constructor <;> decide

theorem Page.default_valid : Page.default.Valid := by
  refine ⟨by decide, by decide, .refresh, ?_, .inl rfl⟩
  decide

namespace State

theorem reset_account (b : BankId) : reset.account b = { debt := 0, pointer := 0, oddPass := false } :=
  get_replicate ..

theorem reset_regions (i : Fin 16) : reset.regions.get i = .powerOn := get_replicate ..

theorem reset_banks (b : BankId) : reset.banks.get b = .powerOn := get_replicate ..

theorem reset_slots (k : SlotId) : (reset.host.slots.get k).state = .free :=
  congrArg Slot.state (get_replicate ..)

theorem reset_pagesSound : reset.PagesSound :=
  ⟨fun i => by rw [show reset.mode.pages.get i = Page.default from get_replicate ..]; exact Page.default_inRange,
    by decide⟩

theorem reset_runPageValid : reset.RunPageValid :=
  ⟨by rw [show reset.runPage = Page.default from get_replicate ..]; exact Page.default_valid, fun _ h => by cases h⟩

theorem reset_regionsInRange : reset.RegionsInRange := fun i => by rw [reset_regions]; decide

theorem reset_regionsDisjoint : reset.RegionsDisjoint := fun i j b g hi => by
  rw [reset_regions] at hi
  simp [Region.covers, Region.powerOn] at hi

theorem reset_remapLaw : reset.RemapLaw := fun i j _ hi => by
  rw [show reset.remap.get i = .powerOn from get_replicate ..] at hi
  cases hi

theorem reset_rowsTranslated : reset.RowsTranslated := fun b row h => by
  rw [reset_banks] at h
  cases h

theorem reset_marksSound : reset.MarksSound := fun b h => by
  rw [reset_banks] at h
  cases h

theorem reset_accountsInRange : reset.AccountsInRange := fun b => by
  rw [reset_account]; decide

theorem reset_pointersNeedRefresh : reset.PointersNeedRefresh := fun b h => by
  rw [reset_account] at h
  cases h

theorem reset_conditioningSound : reset.ConditioningSound :=
  ⟨by simp [reset, RefreshEngine.powerOn], fun n h => by cases h⟩

theorem reset_creditInRange : reset.CreditInRange := by unfold CreditInRange; decide

theorem reset_eventsSound : reset.events.Sound := by
  constructor
  · decide
  · intro h; cases h
  · intro n h; cases h

/-- With no record in a queue the laws of the queues hold. -/
theorem queuesSound_of_empty (h : ∀ p, (s.ports.get p).queue = []) (hh : s.hostQueue = []) : s.QueuesSound := by
  refine ⟨fun p => ⟨by simp [h], by simp [h], by simp [h], fun _ => h p⟩, fun _ => ?_⟩
  refine List.flatMap_eq_nil_iff.2 fun who _ => ?_
  cases who
  · exact h _
  · exact hh

theorem outstanding_of_empty (h : ∀ p, (s.ports.get p).queue = []) (hh : s.hostQueue = []) : s.outstanding = [] := by
  refine List.flatMap_eq_nil_iff.2 fun who _ => ?_
  cases who
  · exact h _
  · exact hh

theorem hostQueueSound_of_empty (hh : s.hostQueue = []) (hk : ∀ k, (s.host.slots.get k).state ≠ .queued) :
    s.HostQueueSound := by
  constructor <;> simp [hh, hk]

theorem countLaw_of_empty (h : ∀ p, (s.ports.get p).queue = []) (hh : s.hostQueue = [])
    (hr : ∀ i, (s.regions.get i).refCount = 0) : s.CountLaw := fun i => by
  rw [outstanding_of_empty h hh, hr]; rfl

theorem criticalBanksFree_of_empty (h : ∀ p, (s.ports.get p).queue = []) (hh : s.hostQueue = []) :
    s.CriticalBanksFree := fun b _ r hr => by
  rw [outstanding_of_empty h hh] at hr
  cases hr

theorem pinLaw_of_empty (h : ∀ p, (s.ports.get p).queue = []) (hh : s.hostQueue = [])
    (hb : ∀ b, (s.banks.get b).pins = 0) : s.PinLaw := fun b => by
  rw [activeOn, outstanding_of_empty h hh]
  exact ⟨hb b, fun hne => absurd (hb b) hne, by simp⟩

theorem reset_queue (p : PortId) : (reset.ports.get p).queue = [] := congrArg Port.queue (get_replicate ..)

theorem reset_sound : reset.Sound where
  memory := reset_dram_wf
  pages := reset_pagesSound
  runPage := reset_runPageValid
  ranges := reset_regionsInRange
  regions := reset_regionsDisjoint
  remap := reset_remapLaw
  rows := reset_rowsTranslated
  queues := queuesSound_of_empty reset_queue rfl
  hostQueue := hostQueueSound_of_empty rfl fun k => by simp [reset_slots]
  pins := pinLaw_of_empty reset_queue rfl fun b => by rw [reset_banks]; rfl
  marks := reset_marksSound
  counts := countLaw_of_empty reset_queue rfl fun i => by rw [reset_regions]; rfl
  accounts := reset_accountsInRange
  pointers := reset_pointersNeedRefresh
  critical := criticalBanksFree_of_empty reset_queue rfl
  conditioning := reset_conditioningSound
  credit := reset_creditInRange
  events := reset_eventsSound

theorem powerOn_queue (a : Bool) (p : PortId) : ((s.powerOn a).ports.get p).queue = [] := by simp [powerOn, Port.powerOn]

theorem softResetIdle_queue (p : PortId) : (s.softResetIdle.ports.get p).queue = [] := by simp [softResetIdle]

end State

/-! ### What a retirement and an expiry keep -/

/-- What one retirement keeps, a check keeps. -/
theorem State.retirementCheck_induct {I : State → Prop} {b : BankId}
    (h : ∀ u : State, u.mayRetire b = true → I u → I (u.retireOne b)) (hs : I s) : I (s.retirementCheck b) := by
  have key : ∀ n u, I u → I (State.retireUpTo b n u) := by
    intro n
    induction n with
    | zero => exact fun u hu => hu
    | succ n ih =>
      intro u hu
      unfold State.retireUpTo
      split
      next hm => exact ih _ (h u hm hu)
      · exact hu
  exact key _ s hs

/-- What the expiry at a bank, a retirement and the restart of the timer keep, an expiry keeps. -/
theorem State.takeExpiry_induct {I : State → Prop} (he : ∀ (u : State) b, I u → I (u.expiryAt b))
    (hr : ∀ (u : State) b, u.mayRetire b = true → I u → I (u.retireOne b))
    (hn : ∀ (u : State) n, I u → I { u with refresh := { u.refresh with elapsed := n } }) (hs : I s) :
    I s.takeExpiry :=
  hn _ _ (foldl_induct I _ (fun _ b hu => State.retirementCheck_induct (fun v => hr v b) hu) _ _
    (foldl_induct I _ he _ _ hs))

/-- What a retirement keeps and the replacement of the entry establishes, a region commit establishes. -/
theorem State.commitRegion_induct {I : State → Prop} {i : Fin 16} {e : Region}
    (hr : ∀ (u : State) b, u.mayRetire b = true → I u → I (u.retireOne b))
    (hs : I { s with
      regions := put s.regions i e
      dram := s.dram.forgetGroups fun b g => (s.regions.get i).wakes e && (s.regions.get i).covers b g }) :
    I (s.commitRegion i e) := by
  unfold State.commitRegion
  dsimp only
  refine foldl_induct I _ (fun u b hu => ?_) _ _ hs
  split
  · exact State.retirementCheck_induct (fun v => hr v b) hu
  · exact hu

/-! ### The rank, the pages, the credit, the events -/

theorem State.retireOne_dram_wf (b : BankId) (h : s.dram.wf = true) : (s.retireOne b).dram.wf = true := by
  unfold State.retireOne
  dsimp only
  split
  · exact Dram.forgetGroup_wf h _ _
  · exact h

theorem State.expiryAt_dram (b : BankId) : (s.expiryAt b).dram = s.dram := by rw [State.expiryAt_eq]

theorem law_memory : Law fun s => s.dram.wf = true where
  dram _ _ hd h := hd h
  endConditioning _ _ _ := Dram.wf_nil
  powerOn _ _ _ := Dram.wf_nil
  softResetIdle _ _ _ := Dram.wf_nil
  commitRegion s i g cls _ _ h := by
    refine State.commitRegion_induct (I := fun u => u.dram.wf = true) (fun _ b _ => State.retireOne_dram_wf b) ?_
    exact Dram.forgetGroups_wf (m := s.dram) h fun b k =>
      (s.regions.get i).wakes (g.toRegion cls (s.regions.get i).refCount) && (s.regions.get i).covers b k
  commitRemap s i e _ h := State.editRows_dram_wf s h i e
  takeExpiry _ h := State.takeExpiry_induct (I := fun u => u.dram.wf = true)
    (fun u b hu => by rw [State.expiryAt_dram]; exact hu) (fun _ b _ => State.retireOne_dram_wf b) (fun _ _ hu => hu) h
  payRefresh _ _ _ h := State.retirementCheck_induct (I := fun u => u.dram.wf = true)
    (fun _ _ => State.retireOne_dram_wf _) h

theorem State.runPage_put_editPage (p : Page) :
    { s with mode := { s.mode with pages := put s.mode.pages s.editSelect p } }.runPage = s.runPage := by
  refine get_put_of_ne _ ?_ _
  change s.mode.runSelect + 1 ≠ s.mode.runSelect
  omega

theorem State.flipPages_runPage : s.flipPages.runPage = s.editPage := rfl

theorem State.flipPages_editPage : s.flipPages.editPage = s.runPage := by
  change s.mode.pages.get (s.mode.runSelect + 1 + 1) = s.mode.pages.get s.mode.runSelect
  congr 1
  omega

theorem law_pages : Law State.PagesSound where
  arbiter s a ha h := by
    refine ⟨h.1, ?_⟩
    obtain ha | ha | ha := ha
    · exact ha ▸ h.2
    · exact ha ▸ Nat.lt_of_le_of_lt (Nat.zero_le _) h.2
    · exact ha
  flipPages s _ h := ⟨h.1, Nat.lt_of_lt_of_le (Nat.succ_pos 3) (h.1 s.editSelect).wheelLength.1⟩
  editPage s p _ hp h := by
    refine ⟨fun i => ?_, by rw [State.runPage_put_editPage]; exact h.2⟩
    change ((put s.mode.pages s.editSelect p).get i).InRange
    rw [get_put]
    split
    · exact hp h
    · exact h.1 i
  powerOn _ _ _ := State.reset_pagesSound
  softResetIdle s _ h := ⟨h.1, Nat.lt_of_lt_of_le (Nat.succ_pos 3) (h.1 s.mode.runSelect).wheelLength.1⟩

theorem law_runPageValid : Law State.RunPageValid where
  sched _ _ _ _ hp h := ⟨h.1, hp⟩
  start _ _ h := ⟨h.1, fun _ hi => by cases hi⟩
  endConditioning _ _ h := ⟨h.1, fun _ hr => by cases hr⟩
  flipPages s hs h := by
    refine ⟨?_, fun ret hret => by rw [State.flipPages_editPage]; exact h.1⟩
    rw [State.flipPages_runPage]
    obtain ⟨-, hv⟩ | ⟨ret, hret⟩ := hs
    · exact hv
    · exact h.2 ret hret
  editPage s p hs _ h := ⟨by rw [State.runPage_put_editPage]; exact h.1, fun ret hret => absurd hret (hs ret)⟩
  powerOn _ _ _ := State.reset_runPageValid
  softResetIdle _ _ h := ⟨h.1, fun _ hi => by cases hi⟩

theorem law_credit : Law State.CreditInRange where
  credit _ _ hc h := hc h
  flipPages s _ _ := by
    change (CreditBucket.restart _ _ _).count ≤ _
    rw [CreditBucket.restart_count]
    exact Nat.min_le_right ..
  editPage s p _ _ h := by unfold State.CreditInRange; rw [State.runPage_put_editPage]; exact h
  powerOn _ _ _ := State.reset_creditInRange
  softResetIdle s _ _ := by
    change (CreditBucket.restart _ _ _).count ≤ _
    rw [CreditBucket.restart_count]
    exact le_rfl

theorem State.expiryAt_eventsSound (b : BankId) (h : s.events.Sound) : (s.expiryAt b).events.Sound := by
  unfold State.expiryAt
  dsimp only
  split
  · split
    · exact EventQueue.Sound.post (s := State.suspendBank (s.modAccount b _) b) h ..
    · exact h
  · exact h.post ..

theorem State.retireOne_events (b : BankId) : (s.retireOne b).events = s.events := by rw [State.retireOne_eq]

theorem law_events : Law fun s => s.events.Sound where
  events _ _ hq h := hq h
  powerOn _ _ _ := State.reset_eventsSound
  softResetIdle _ _ h := h.suffix (List.nil_suffix ..) _
  takeExpiry _ h := State.takeExpiry_induct (I := fun u => u.events.Sound) (fun _ b => State.expiryAt_eventsSound b)
    (fun u b _ hu => by rw [State.retireOne_events]; exact hu) (fun _ _ hu => hu) h

/-! ### The conditioning -/

theorem State.retireOne_conditioning (b : BankId) :
    (s.retireOne b).refresh.conditioning = s.refresh.conditioning := by
  unfold State.retireOne; dsimp only; split <;> rfl

theorem State.retireOne_mode (b : BankId) : (s.retireOne b).mode = s.mode := by rw [State.retireOne_eq]

theorem State.ConditioningSound.of_eq (h : s.ConditioningSound) (hm : t.mode = s.mode)
    (hc : t.refresh.conditioning = s.refresh.conditioning) : t.ConditioningSound := by
  unfold State.ConditioningSound; rw [hm, hc]; exact h

theorem State.retireOne_conditioningSound (b : BankId) (h : s.ConditioningSound) :
    (s.retireOne b).ConditioningSound := h.of_eq (s.retireOne_mode b) (s.retireOne_conditioning b)

theorem State.expiryAt_conditioning (b : BankId) :
    (s.expiryAt b).refresh.conditioning = s.refresh.conditioning := by
  unfold State.expiryAt
  dsimp only
  split
  · split
    · rw [State.post_refresh]; rfl
    · rfl
  · rw [State.post_refresh]

theorem SchedState.running_iff (st : SchedState) : st.running = true ↔ st ≠ .stopped ∧ st ≠ .init := by
  cases st <;> simp [SchedState.running]

theorem law_conditioning : Law State.ConditioningSound where
  sched s st hs hst _ h := by
    rw [SchedState.running_iff] at hs hst
    exact ⟨⟨fun hi => absurd hi hst.2, fun hc => absurd (h.1.2 hc) hs.2⟩, h.2⟩
  start _ _ _ := ⟨⟨fun _ => by simp, fun _ => rfl⟩, fun _ hn => by cases hn⟩
  condition _ _ hs hc hn _ := ⟨⟨fun _ => hc, fun _ => hs⟩, hn⟩
  idle s hs h := by
    rw [SchedState.running_iff] at hs
    exact ⟨⟨fun hi => absurd hi hs.2, fun hc => absurd rfl hc⟩, fun _ hn => by cases hn⟩
  endConditioning _ _ _ := ⟨⟨(by cases ·), fun hc => absurd rfl hc⟩, fun _ hn => by cases hn⟩
  powerOn _ _ _ := State.reset_conditioningSound
  softResetIdle _ _ _ := ⟨⟨(by cases ·), fun hc => absurd rfl hc⟩, fun _ hn => by cases hn⟩
  commitRegion _ _ _ _ _ _ h :=
    State.commitRegion_induct (I := State.ConditioningSound) (fun _ b _ => State.retireOne_conditioningSound b) h
  takeExpiry _ h := State.takeExpiry_induct (I := State.ConditioningSound)
    (fun u b hu => hu.of_eq (by rw [State.expiryAt_eq]) (u.expiryAt_conditioning b))
    (fun _ b _ => State.retireOne_conditioningSound b) (fun _ _ hu => hu) h
  payRefresh _ _ _ h :=
    State.retirementCheck_induct (I := State.ConditioningSound) (fun _ _ => State.retireOne_conditioningSound _) h

/-! ### The tables -/

theorem State.commitRegion_regions (i : Fin 16) (e : Region) : (s.commitRegion i e).regions = put s.regions i e := by
  rw [State.commitRegion_eq]

theorem mem_allRegions (i : Fin 16) : i ∈ allRegions := by
  revert i; decide

theorem law_ranges : Law State.RegionsInRange where
  powerOn _ _ _ := State.reset_regionsInRange
  softResetIdle s _ h i := by
    rw [show s.softResetIdle.regions.get i = { s.regions.get i with refCount := 0 } from get_map ..]
    exact h i
  commitRegion s i g cls hv _ h := by
    intro j
    rw [State.commitRegion_regions, get_put]
    split
    · unfold StagedRegion.rangeValid at hv
      simp only [Bool.and_eq_true, decide_eq_true_eq] at hv
      exact ⟨hv.1.1.2, hv.2⟩
    · exact h j
  finish s t ht h i := by
    obtain ⟨n, hn⟩ := ht.tables.regions i
    rw [hn]
    exact h i
  file s t who r ht h i := by
    rw [ht.counted]
    exact h i

theorem Region.covers_iff {e : Region} {b : BankId} {g : Nat} : e.covers b g = true ↔
    ((e.enabled = true ∧ e.bank = b) ∧ e.firstGroup ≤ g) ∧ g < e.firstGroup + e.groupCount := by
  simp [Region.covers]

theorem Region.covers_of_count (e : Region) (n : Nat) : ({ e with refCount := n } : Region).covers = e.covers := rfl

theorem State.RegionsDisjoint.of_counts (h : s.RegionsDisjoint)
    (hr : ∀ i, ∃ n, t.regions.get i = { s.regions.get i with refCount := n }) : t.RegionsDisjoint := fun i j b g hi hj => by
  obtain ⟨n, hn⟩ := hr i
  obtain ⟨m, hm⟩ := hr j
  rw [hn, Region.covers_of_count] at hi
  rw [hm, Region.covers_of_count] at hj
  exact h i j b g hi hj

/-- An entry that meets no other enabled entry of its bank covers no group that another covers (R64). -/
theorem StagedRegion.not_covers {v : Vector Region 16} {i j : Fin 16} {g : StagedRegion}
    (ho : g.overlapsOther v i = false) (hij : i ≠ j) {cls : RefreshClass} {n : Nat} {b : BankId} {k : Nat}
    (hi : (g.toRegion cls n).covers b k = true) : (v.get j).covers b k = false := by
  by_contra hj
  obtain ⟨⟨⟨hen, hbank⟩, hlow⟩, hhigh⟩ := Region.covers_iff.1 hi
  obtain ⟨⟨⟨hen', hbank'⟩, hlow'⟩, hhigh'⟩ := Region.covers_iff.1 (Bool.not_eq_false _ ▸ hj)
  rw [StagedRegion.overlapsOther, show g.enabled = true from hen, Bool.true_and, List.any_eq_false] at ho
  have hranges : rangesIntersect g.firstGroup g.groupCount (v.get j).firstGroup (v.get j).groupCount = true := by
    have : g.firstGroup ≤ k := hlow
    have : k < g.firstGroup + g.groupCount := hhigh
    simp only [rangesIntersect, Bool.and_eq_true, decide_eq_true_eq]
    omega
  exact ho j (mem_allRegions j) (by simp [hij.symm, hen', hbank', show g.bank = b from hbank, hranges])

theorem law_disjoint : Law State.RegionsDisjoint where
  powerOn _ _ _ := State.reset_regionsDisjoint
  softResetIdle s _ h := h.of_counts fun i => ⟨0, get_map ..⟩
  commitRegion s i g cls _ ho h := by
    intro j k b n hj hk
    rw [State.commitRegion_regions, get_put] at hj hk
    split at hj <;> split at hk
    next h1 h2 => exact h1.symm.trans h2
    next h1 h2 => exact absurd (StagedRegion.not_covers ho h2 hj) (by simp [hk])
    next h1 h2 => exact absurd (StagedRegion.not_covers ho h1 hk) (by simp [hj])
    · exact h j k b n hj hk
  finish s t ht h := h.of_counts ht.tables.regions
  file s t who r ht h := h.of_counts fun i => ⟨_, ht.counted i⟩

end Sys2Proof.Machine
end

section
/-! PROOFS. The laws of remap entries, open rows, queues, counts and accounts, and with all laws the obligations of every
step. -/

-- One proof after another: a thread for each would reserve more memory than the check allows.
set_option Elab.async false

namespace Sys2Proof.Machine

variable {s t : State}

/-! ### Remap entries and the rows held open -/

theorem mem_allRemap (i : Fin 8) : i ∈ allRemap := by
  revert i; decide

theorem not_otherRemap {v : Vector RemapEntry 8} {i : Fin 8} {f : RemapEntry → Bool}
    (h : ¬otherRemap v i f = true) {j : Fin 8} (hj : j ≠ i) (hv : (v.get j).valid = true) : ¬f (v.get j) = true := by
  intro hf
  exact h (List.any_eq_true.2 ⟨j, mem_allRemap j, by simp [hj, hv, hf]⟩)

/-- A remap edit that is not refused: what is stored names no bank and faulty row, and no bank and spare, of another valid
entry, and neither what is stored nor what stood there names a row held open, unless it is the same entry (R10, R11). -/
theorem State.remapRefusal_none {i : Fin 8} {e : RemapEntry} (h : s.remapRefusal i e = none) :
    remapStored (s.remap.get i) e = s.remap.get i ∨
      (((remapStored (s.remap.get i) e).valid = true → s.addRefusal i (remapStored (s.remap.get i) e) = none) ∧
        ((s.remap.get i).valid = true → s.removeRefusal (s.remap.get i) = none)) := by
  unfold State.remapRefusal at h
  dsimp only at h
  unfold remapStored
  by_cases hold : (s.remap.get i).valid = true <;> by_cases hnew : e.valid = true <;> simp [hold, hnew] at h ⊢
  · by_cases he : e = s.remap.get i
    · exact .inl he
    · specialize h he
      split at h
      · cases h
      next ha => exact .inr ⟨ha, h⟩
  · exact .inr h
  · exact .inr h

theorem State.addRefusal_none {i : Fin 8} {e : RemapEntry} (h : s.addRefusal i e = none) :
    (∀ j, j ≠ i → (s.remap.get j).valid = true → (s.remap.get j).bank = e.bank →
      (s.remap.get j).faultyRow ≠ e.faultyRow ∧ (s.remap.get j).spare ≠ e.spare) ∧
    (s.banks.get e.bank).openRow? ≠ some e.faultyRow := by
  unfold State.addRefusal at h
  split_ifs at h with h1 h2 h3
  refine ⟨fun j hj hv hb => ⟨fun hf => ?_, fun hf => ?_⟩, by simpa [State.rowHeldOpen] using h3⟩
  · exact not_otherRemap h1 hj hv (by simp [hb, hf])
  · exact not_otherRemap h2 hj hv (by simp [hb, hf])

theorem State.removeRefusal_none {e : RemapEntry} (h : s.removeRefusal e = none) :
    (s.banks.get e.bank).openRow? ≠ some e.faultyRow := by
  unfold State.removeRefusal at h
  split_ifs at h with h1
  simpa [State.rowHeldOpen] using h1

theorem law_remap : Law State.RemapLaw where
  powerOn _ _ _ := State.reset_remapLaw
  softResetIdle _ _ h := h
  commitRemap s i e hn h := by
    change State.RemapLaw { s with remap := put s.remap i (remapStored (s.remap.get i) e) }
    obtain heq | ⟨hadd, -⟩ := s.remapRefusal_none hn
    · rw [heq, put_get_self]
      exact h
    · generalize remapStored (s.remap.get i) e = o at hadd
      intro j k hjk hj hk hb
      dsimp only at hj hk hb ⊢
      by_cases hji : i = j
      · subst hji
        rw [get_put_self] at hj hb ⊢
        rw [get_put_of_ne _ hjk] at hk hb ⊢
        obtain ⟨hf, hs⟩ := (State.addRefusal_none (hadd hj)).1 k hjk.symm hk hb.symm
        exact ⟨hf.symm, hs.symm⟩
      · rw [get_put_of_ne _ hji] at hj hb ⊢
        by_cases hki : i = k
        · subst hki
          rw [get_put_self] at hk hb ⊢
          exact (State.addRefusal_none (hadd hk)).1 j hjk hj hb
        · rw [get_put_of_ne _ hki] at hk hb ⊢
          exact h j k hjk hj hk hb

/-- The translation of a row that the old entry does not name and the new entry does not name stays. -/
theorem State.translate_put {i : Fin 8} {e : RemapEntry} {b : BankId} {row : Fin 2048}
    (ho : ¬((s.remap.get i).valid = true ∧ (s.remap.get i).bank = b ∧ (s.remap.get i).faultyRow = row))
    (hn : ¬(e.valid = true ∧ e.bank = b ∧ e.faultyRow = row)) {u : State} (hu : u.remap = put s.remap i e) :
    u.translate b row = s.translate b row := by
  have hp : (fun j => (u.remap.get j).valid && (u.remap.get j).bank == b && (u.remap.get j).faultyRow == row) =
      fun j => (s.remap.get j).valid && (s.remap.get j).bank == b && (s.remap.get j).faultyRow == row := by
    funext j
    rw [hu, get_put]
    split
    next hij =>
      subst hij
      rw [Bool.eq_iff_iff]
      simp only [Bool.and_eq_true, beq_iff_eq, and_assoc]
      exact ⟨fun h => absurd h hn, fun h => absurd h ho⟩
    · rfl
  unfold State.translate
  rw [hp]
  split
  next j hj =>
    have hji : i ≠ j := by
      rintro rfl
      exact ho (by simpa [and_assoc] using List.find?_some hj)
    rw [hu, get_put_of_ne _ hji]
  · rfl

theorem State.RowsTranslated.of_follow (h : s.RowsTranslated) (hr : t.remap = s.remap)
    (hb : ∀ b, s.BankFollows b (t.banks.get b)) : t.RowsTranslated := by
  intro b row ho
  have htr : t.translate b row = s.translate b row := by unfold State.translate; rw [hr]
  rw [htr]
  obtain hn | ⟨hs, hp⟩ | ⟨row', hs, hp⟩ := (hb b).1
  · rw [hn] at ho; cases ho
  · rw [hp]; exact h b row (hs ▸ ho)
  · obtain rfl : row' = row := Option.some.inj (hs.symm.trans ho)
    exact hp

theorem State.MarksSound.of_follow (h : s.MarksSound) (hb : ∀ b, s.BankFollows b (t.banks.get b)) : t.MarksSound := by
  intro b hc
  obtain ho | ⟨hs, ho⟩ := (hb b).2 hc
  · exact ho
  · rw [ho]; exact h b hs

/-- What the account, the events, the rank and records that change in place leave alone, an expiry leaves alone. -/
theorem State.takeExpiry_moves {I : State → Prop} (hr : ∀ (u : State) r, I u → I { u with refresh := r })
    (hd : ∀ (u : State) d, I u → I { u with dram := d }) (he : ∀ (u : State) q, I u → I { u with events := q })
    (hi : ∀ u v : State, u.InPlace v → I u → I v) (hs : I s) : I s.takeExpiry := by
  refine State.takeExpiry_induct (fun u b hu => ?_) (fun u b _ hu => ?_) (fun u n hu => hr u _ hu) hs
  · unfold State.expiryAt
    dsimp only
    split
    · split
      · rw [State.post_eq]
        exact he _ _ (hi _ _ (State.suspendBank_inPlace _ b) (hr u _ hu))
      · exact hr u _ hu
    · rw [State.post_eq]
      exact he _ _ hu
  · unfold State.retireOne
    dsimp only
    split
    · exact hd _ _ (hr u _ hu)
    · exact hr u _ hu

theorem law_rows : Law State.RowsTranslated where
  powerOn _ _ _ := State.reset_rowsTranslated
  softResetIdle s _ _ b row h := by
    rw [show s.softResetIdle.banks.get b = .powerOn from get_replicate ..] at h
    cases h
  commitRemap s i e hn h := by
    rw [State.editRows_eq]
    generalize s.editRows i e = u
    change State.RowsTranslated { s with remap := put s.remap i (remapStored (s.remap.get i) e) }
    obtain heq | ⟨hadd, hrem⟩ := s.remapRefusal_none hn
    · rw [heq, put_get_self]
      exact h
    · generalize remapStored (s.remap.get i) e = o at hadd
      intro b row hrow
      rw [State.translate_put (s := s) ?_ ?_ rfl]
      · exact h b row hrow
      · rintro ⟨hv, rfl, rfl⟩
        exact State.removeRefusal_none (hrem hv) hrow
      · rintro ⟨hv, rfl, rfl⟩
        exact (State.addRefusal_none (hadd hv)).2 hrow
  banks s v hv h := h.of_follow (t := { s with banks := v }) rfl hv
  finish s t ht h := h.of_follow (by rw [ht.frame]) ht.tables.banks
  inPlace s t ht h := h.of_follow (by rw [ht.frame]) ht.banks
  takeExpiry s h := State.takeExpiry_moves (I := State.RowsTranslated) (fun _ _ hu => hu) (fun _ _ hu => hu)
    (fun _ _ hu => hu) (fun u v hv hu => hu.of_follow (by rw [hv.frame]) hv.banks) h

theorem law_marks : Law State.MarksSound where
  powerOn _ _ _ := State.reset_marksSound
  softResetIdle s _ _ b h := by
    rw [show s.softResetIdle.banks.get b = .powerOn from get_replicate ..] at h
    cases h
  banks s v hv h := h.of_follow (t := { s with banks := v }) hv
  finish s t ht h := h.of_follow ht.tables.banks
  inPlace s t ht h := h.of_follow ht.banks
  takeExpiry s h := State.takeExpiry_moves (I := State.MarksSound) (fun _ _ hu => hu) (fun _ _ hu => hu)
    (fun _ _ hu => hu) (fun u v hv hu => hu.of_follow hv.banks) h

/-! ### The queues -/

theorem State.outstanding_eq_nil_iff : s.outstanding = [] ↔ ∀ who, s.queueOf who = [] := by
  simp only [List.eq_nil_iff_forall_not_mem, State.mem_outstanding, not_exists]
  exact forall_comm

theorem State.QueuesSound.tagsDistinct_port (h : s.QueuesSound) (p : PortId) : s.TagsDistinct (.port p) :=
  (h.1 p).tagsDistinct

theorem forall₂_map_eq {α β : Type} {R : α → α → Prop} {f : α → β} {l m : List α} (h : List.Forall₂ R l m)
    (hf : ∀ a b, R a b → f b = f a) : m.map f = l.map f := by
  induction h with
  | nil => rfl
  | cons hr _ ih => rw [List.map_cons, List.map_cons, ih, hf _ _ hr]

theorem forall₂_mem_right {α : Type} {R : α → α → Prop} {l m : List α} (h : List.Forall₂ R l m) {b : α} (hb : b ∈ m) :
    ∃ a ∈ l, R a b := by
  induction h with
  | nil => cases hb
  | cons hr _ ih =>
    obtain rfl | hb := List.mem_cons.1 hb
    · exact ⟨_, List.mem_cons_self, hr⟩
    · obtain ⟨a, ha, hab⟩ := ih hb
      exact ⟨a, List.mem_cons_of_mem _ ha, hab⟩

theorem forall₂_mem_left {α : Type} {R : α → α → Prop} {l m : List α} (h : List.Forall₂ R l m) {a : α} (ha : a ∈ l) :
    ∃ b ∈ m, R a b := by
  obtain ⟨b, hb, hab⟩ := forall₂_mem_right (List.Forall₂.flip (R := fun b a => R a b) h) ha
  exact ⟨b, hb, hab⟩

/-- An empty queue stays empty. -/
theorem State.InPlace.queue_eq_nil (ht : s.InPlace t) {who : Requester} (h : s.queueOf who = []) : t.queueOf who = [] := by
  have hf := ht.follow who (by unfold State.TagsDistinct; simp [h])
  rw [h] at hf
  exact List.forall₂_nil_left_iff.1 hf

theorem State.QueuesSound.of_inPlace (h : s.QueuesSound) (ht : s.InPlace t) : t.QueuesSound := by
  refine ⟨fun p => ?_, fun hs => ?_⟩
  · have hq := h.1 p
    have hf : List.Forall₂ _ (s.ports.get p).queue (t.ports.get p).queue := ht.follow (.port p) (h.tagsDistinct_port p)
    refine ⟨hf.length_eq ▸ hq.atMostEight, forall₂_map_eq hf (fun _ _ hr => hr.tag) ▸ hq.tagsDistinct, fun r hr => ?_,
      fun hp => ?_⟩
    · obtain ⟨q, hqm, hqr⟩ := forall₂_mem_right hf hr
      exact hqr.burstsLeft (hq.burstsLeft q hqm)
    · refine ht.queue_eq_nil (who := .port p) ?_
      obtain hne | hnil := ht.lines p hp
      · exact hq.onlyEnabled hne
      · exact hnil
  · have hmode : t.mode = s.mode := by rw [ht.frame]
    rw [hmode] at hs
    have hnil := State.outstanding_eq_nil_iff.1 (h.2 hs)
    exact State.outstanding_eq_nil_iff.2 fun who => ht.queue_eq_nil (hnil who)

theorem State.QueuesSound.of_finished (h : s.QueuesSound) (ht : s.Finished t) : t.QueuesSound := by
  refine ⟨fun p => ?_, fun hs => ?_⟩
  · have hq := h.1 p
    have hl : (t.ports.get p).queue.Sublist (s.ports.get p).queue := ht.left (.port p)
    refine ⟨hl.length_le.trans hq.atMostEight, (hl.map _).nodup hq.tagsDistinct, fun r hr => hq.burstsLeft r (hl.subset hr),
      fun hp => ?_⟩
    rw [ht.lines] at hp
    exact List.sublist_nil.1 (hq.onlyEnabled hp ▸ hl)
  · have hmode : t.mode = s.mode := by rw [ht.frame]
    rw [hmode] at hs
    have hnil := State.outstanding_eq_nil_iff.1 (h.2 hs)
    exact State.outstanding_eq_nil_iff.2 fun who => List.sublist_nil.1 (hnil who ▸ ht.left who)

/-- A queue grows by its own record alone. -/
theorem State.Filed.queue {who : Requester} {r : Record} (ht : s.Filed t who r) (w : Requester) :
    t.queueOf w = s.queueOf w ++ if w = who then [r] else [] := by
  by_cases hw : w = who
  · subst hw
    simpa using ht.joined
  · simpa [hw] using ht.others w hw

theorem State.QueuesSound.of_filed {who : Requester} {r : Record} (h : s.QueuesSound) (ht : s.Filed t who r) :
    t.QueuesSound := by
  refine ⟨fun p => ?_, fun hs => ?_⟩
  · have hq := h.1 p
    have heq : (t.ports.get p).queue = (s.ports.get p).queue ++ _ := ht.queue (.port p)
    by_cases hw : Requester.port p = who
    · obtain ⟨hen, hroom, htag, -⟩ := ht.ofPort p hw.symm
      rw [if_pos hw] at heq
      refine ⟨by rw [heq]; simp; omega, ?_, fun q hqm => ?_, fun hp => absurd (ht.lines p ▸ hen) hp⟩
      · rw [heq, List.map_append, List.nodup_append]
        refine ⟨hq.tagsDistinct, by simp, ?_⟩
        simpa using htag
      · rw [heq, List.mem_append, List.mem_singleton] at hqm
        obtain hqm | rfl := hqm
        · exact hq.burstsLeft q hqm
        · rw [ht.queued.2.1]
          exact ht.queued.2.2
    · rw [if_neg hw, List.append_nil] at heq
      refine ⟨heq ▸ hq.atMostEight, heq ▸ hq.tagsDistinct, heq ▸ hq.burstsLeft, fun hp => ?_⟩
      rw [heq]
      exact hq.onlyEnabled (ht.lines p ▸ hp)
  · have hrun := (SchedState.running_iff _).1 ht.running
    have hmode : t.mode = s.mode := by rw [ht.frame]
    rw [hmode] at hs
    exact (hs.elim hrun.1 hrun.2).elim

theorem State.QueuesSound.of_running (h : s.QueuesSound) (hp : t.ports = s.ports) (hh : t.hostQueue = s.hostQueue)
    (hs : t.mode.sched = .stopped ∨ t.mode.sched = .init → s.mode.sched = .stopped ∨ s.mode.sched = .init) :
    t.QueuesSound := by
  have hout : t.outstanding = s.outstanding := State.outstanding_congr (by
    funext who
    cases who with
    | port p => exact congrArg (fun v => (v.get p).queue) hp
    | host => exact hh)
  exact ⟨fun p => hp ▸ h.1 p, fun ht => hout ▸ h.2 (hs ht)⟩

theorem law_queues : Law State.QueuesSound where
  sched s st _ hst _ h := by
    rw [SchedState.running_iff] at hst
    exact h.of_running rfl rfl fun hi => (hi.elim hst.1 hst.2).elim
  start s hs h := h.of_running rfl rfl fun _ => .inl hs
  endConditioning s _ h := h.of_running rfl rfl fun hi => by simp [State.setSched] at hi
  powerOn s a _ := State.queuesSound_of_empty (State.powerOn_queue a) rfl
  softResetIdle s _ _ := State.queuesSound_of_empty State.softResetIdle_queue rfl
  finish _ _ ht h := h.of_finished ht
  inPlace _ _ ht h := h.of_inPlace ht
  file _ _ _ _ ht h := h.of_filed ht
  takeExpiry s h := State.takeExpiry_moves (I := State.QueuesSound) (fun _ _ hu => hu) (fun _ _ hu => hu)
    (fun _ _ hu => hu) (fun _ _ hv hu => hu.of_inPlace hv) h

end Sys2Proof.Machine
end

section
/-! PROOFS. The laws of the host queue, the counts and the accounts, and with all laws the obligations of every step. -/

-- One proof after another: a thread for each would reserve more memory than the check allows.
set_option Elab.async false

namespace Sys2Proof.Machine

variable {s t : State}

/-! ### The host queue -/

theorem State.HostQueueSound.of_slots (h : s.HostQueueSound) (hq : t.hostQueue = s.hostQueue)
    (hk : ∀ k, (t.host.slots.get k).state = .queued ↔ (s.host.slots.get k).state = .queued) : t.HostQueueSound where
  ofSlot r hr := by
    obtain ⟨k, ho, ht, hs⟩ := h.ofSlot r (hq ▸ hr)
    exact ⟨k, ho, ht, (hk k).2 hs⟩
  queued := hq ▸ h.queued
  tagsDistinct := hq ▸ h.tagsDistinct
  ofQueued k hs := hq ▸ h.ofQueued k ((hk k).1 hs)

theorem State.HostQueueSound.of_finished (h : s.HostQueueSound) (ht : s.Finished t) : t.HostQueueSound where
  ofSlot r hr := by
    have hrs := (ht.left .host).subset hr
    obtain ⟨k, ho, htag, hs⟩ := h.ofSlot r hrs
    refine ⟨k, ho, htag, (ht.slots h k).2 ⟨hs, fun q hq hqo => ?_⟩⟩
    rwa [h.origin_unique hq hrs (hqo.trans ho.symm)]
  queued r hr := h.queued r ((ht.left .host).subset hr)
  tagsDistinct := ((ht.left .host).map _).nodup h.tagsDistinct
  ofQueued k hk := by
    obtain ⟨hs, hleft⟩ := (ht.slots h k).1 hk
    obtain ⟨r, hr, ho⟩ := h.ofQueued k hs
    exact ⟨r, hleft r hr ho, ho⟩

theorem State.HostQueueSound.of_inPlace (h : s.HostQueueSound) (ht : s.InPlace t) : t.HostQueueSound := by
  have hf : List.Forall₂ _ s.hostQueue t.hostQueue := ht.follow .host h.tagsDistinct
  have hhost : t.host = s.host := by rw [ht.frame]
  refine ⟨fun r hr => ?_, fun r hr => ?_, forall₂_map_eq hf (fun _ _ hr => hr.tag) ▸ h.tagsDistinct, fun k hk => ?_⟩
  · obtain ⟨q, hq, hqr⟩ := forall₂_mem_right hf hr
    obtain ⟨k, ho, htag, hs⟩ := h.ofSlot q hq
    exact ⟨k, hqr.origin.trans ho, hqr.tag ▸ htag, hhost ▸ hs⟩
  · obtain ⟨q, hq, hqr⟩ := forall₂_mem_right hf hr
    obtain ⟨hst, hlen, hdone, hword⟩ := h.queued q hq
    obtain ⟨hst', hdone'⟩ := hqr.queued rfl hst
    exact ⟨hst', hqr.length.trans hlen, hdone'.trans hdone, hqr.word ▸ hword⟩
  · obtain ⟨r, hr, ho⟩ := h.ofQueued k (hhost ▸ hk)
    obtain ⟨q, hq, hrq⟩ := forall₂_mem_left hf hr
    exact ⟨q, hq, hrq.origin.trans ho⟩

theorem State.HostQueueSound.of_filed {who : Requester} {r : Record} (h : s.HostQueueSound) (ht : s.Filed t who r) :
    t.HostQueueSound := by
  have heq : t.hostQueue = s.hostQueue ++ _ := ht.queue .host
  cases who with
  | port p =>
    rw [if_neg (by simp), List.append_nil] at heq
    exact h.of_slots heq fun k => by rw [(ht.ofPort p rfl).2.2.2]
  | host =>
    obtain ⟨k, ho, htag, hlen, hword, hfree, hslots⟩ := ht.ofHost rfl
    rw [if_pos rfl] at heq
    have hother : ∀ {q}, q ∈ s.hostQueue → q.origin ≠ .slot k := fun hq hqo => by
      obtain ⟨l, hl, -, hqs⟩ := h.ofSlot _ hq
      rw [← Origin.slot.inj (hqo.symm.trans hl), hfree] at hqs
      cases hqs
    refine ⟨fun q hq => ?_, fun q hq => ?_, ?_, fun l hl => ?_⟩
    · obtain hq | rfl := List.mem_append.1 (heq ▸ hq) |>.imp_right List.mem_singleton.1
      · obtain ⟨l, hqo, hqt, hqs⟩ := h.ofSlot q hq
        exact ⟨l, hqo, hqt, by rw [hslots]; split <;> [rfl; exact hqs]⟩
      · exact ⟨k, ho, htag, by rw [hslots, if_pos rfl]⟩
    · obtain hq | rfl := List.mem_append.1 (heq ▸ hq) |>.imp_right List.mem_singleton.1
      · exact h.queued q hq
      · exact ⟨ht.queued.1, hlen, ht.queued.2.1, hword⟩
    · rw [heq, List.map_append, List.nodup_append]
      refine ⟨h.tagsDistinct, by simp, fun a ha b hb hab => ?_⟩
      obtain ⟨q, hq, rfl⟩ := List.mem_map.1 ha
      obtain ⟨l, hqo, hqt, -⟩ := h.ofSlot q hq
      have hb : b = r.tag := by simpa using hb
      have hkl : l = k := Fin.ext (by rw [← hqt, ← htag, hab, hb])
      exact hother hq (hkl ▸ hqo)
    · rw [hslots] at hl
      split at hl
      next hkl => exact ⟨r, by simp [heq], hkl ▸ ho⟩
      · obtain ⟨q, hq, hqo⟩ := h.ofQueued l hl
        exact ⟨q, by simp [heq, hq], hqo⟩

/-- The law of the host queue reads the queue and the slots alone. -/
def HostLaw (q : List Record) (h : HostInterface) : Prop := { State.reset with hostQueue := q, host := h }.HostQueueSound

theorem hostLaw_iff : HostLaw s.hostQueue s.host ↔ s.HostQueueSound :=
  ⟨fun h => h.of_slots rfl fun _ => Iff.rfl, fun h => h.of_slots rfl fun _ => Iff.rfl⟩

/-- The law of the host queue with that of all queues, which has it empty in STOPPED and INIT. -/
def State.AllQueuesSound (s : State) : Prop := s.QueuesSound ∧ HostLaw s.hostQueue s.host

theorem State.allQueuesSound_iff : s.AllQueuesSound ↔ s.QueuesSound ∧ s.HostQueueSound := and_congr Iff.rfl hostLaw_iff

theorem State.AllQueuesSound.tagsDistinct (h : s.AllQueuesSound) : ∀ who, s.TagsDistinct who
  | .port p => h.1.tagsDistinct_port p
  | .host => (hostLaw_iff.1 h.2).tagsDistinct

theorem State.AllQueuesSound.of_inPlace (h : s.AllQueuesSound) (ht : s.InPlace t) : t.AllQueuesSound :=
  ⟨h.1.of_inPlace ht, hostLaw_iff.2 ((hostLaw_iff.1 h.2).of_inPlace ht)⟩

theorem law_hostQueue : Law State.AllQueuesSound where
  other s t ht hk h := by
    have hq : t.QueuesSound := by rw [ht]; exact h.1
    exact ⟨hq, hostLaw_iff.2 ((hostLaw_iff.1 h.2).of_slots (by rw [ht]) hk)⟩
  sched s st hs hst hp h := ⟨law_queues.sched s st hs hst hp h.1, h.2⟩
  start s hs h := ⟨law_queues.start s hs h.1, h.2⟩
  endConditioning s hs h := ⟨law_queues.endConditioning s hs h.1, h.2⟩
  powerOn s a h := ⟨law_queues.powerOn s a h.1, State.hostQueueSound_of_empty rfl
    fun k (hk : (State.reset.host.slots.get k).state = .queued) => by simp [State.reset_slots] at hk⟩
  softResetIdle s hs h := by
    refine ⟨law_queues.softResetIdle s hs h.1, State.hostQueueSound_of_empty rfl fun k hk => ?_⟩
    obtain ⟨r, hr, -⟩ := (hostLaw_iff.1 h.2).ofQueued k hk
    rw [show s.hostQueue = [] from State.outstanding_eq_nil_iff.1 (h.1.2 hs) .host] at hr
    cases hr
  finish _ _ ht h := ⟨h.1.of_finished ht, hostLaw_iff.2 ((hostLaw_iff.1 h.2).of_finished ht)⟩
  inPlace _ _ ht h := h.of_inPlace ht
  file _ _ _ _ ht h := ⟨h.1.of_filed ht, hostLaw_iff.2 ((hostLaw_iff.1 h.2).of_filed ht)⟩
  takeExpiry s h := State.takeExpiry_moves (I := State.AllQueuesSound) (fun _ _ hu => hu) (fun _ _ hu => hu)
    (fun _ _ hu => hu) (fun _ _ hv hu => hu.of_inPlace hv) h

/-! ### The reference counts -/

/-- Records that change in place name the regions they named. -/
theorem State.InPlace.regionsNamed (ht : s.InPlace t) (h : ∀ who, s.TagsDistinct who) :
    t.outstanding.map Record.region = s.outstanding.map Record.region := by
  have hq : ∀ who, (t.queueOf who).map Record.region = (s.queueOf who).map Record.region := fun who =>
    forall₂_map_eq (ht.follow who (h who)) fun _ _ hr => hr.region
  simp only [State.outstanding, List.map_flatMap, hq]

theorem State.CountLaw.of_inPlace (h : s.CountLaw) (hd : ∀ who, s.TagsDistinct who) (ht : s.InPlace t) : t.CountLaw := by
  intro i
  have hr : t.regions = s.regions := by rw [ht.frame]
  have hc := congrArg (List.countP (· == i)) (ht.regionsNamed hd)
  rw [List.countP_map, List.countP_map] at hc
  exact hr ▸ (h i).trans hc.symm

theorem State.CountLaw.of_finished (h : s.CountLaw) (hd : ∀ who, s.TagsDistinct who) (ht : s.Finished t) :
    t.CountLaw := by
  intro i
  obtain ⟨l, hperm, hcounts⟩ := ht.counted hd
  have hs := h i
  rw [hperm.countP_eq, List.countP_append] at hs
  rw [hcounts i]
  change (s.regions.get i).refCount - _ = _
  omega

theorem State.Filed.outstanding {who : Requester} {r : Record} (ht : s.Filed t who r) :
    t.outstanding.Perm ([r] ++ s.outstanding) := by
  refine State.outstanding_perm (who := who) ?_ fun w hw => (ht.others w hw).symm
  rw [ht.joined]
  exact List.perm_append_comm

theorem State.CountLaw.of_filed {who : Requester} {r : Record} (h : s.CountLaw) (ht : s.Filed t who r) : t.CountLaw := by
  intro i
  rw [ht.counted, ht.outstanding.countP_eq, List.countP_append, ← h i]
  change (s.regions.get i).refCount + (if r.region = i then 1 else 0) = _
  by_cases hi : r.region = i <;> simp [hi]
  omega

/-- The counts with the laws of the queues, whose tags say which record a finish takes. -/
def State.CountsSound (s : State) : Prop := s.AllQueuesSound ∧ s.CountLaw

theorem law_counts : Law State.CountsSound where
  other s t ht hk h := by
    have hc : t.CountLaw := by rw [ht]; exact h.2
    exact ⟨law_hostQueue.other s t ht hk h.1, hc⟩
  sched s st hs hst hp h := ⟨law_hostQueue.sched s st hs hst hp h.1, h.2⟩
  start s hs h := ⟨law_hostQueue.start s hs h.1, h.2⟩
  endConditioning s hs h := ⟨law_hostQueue.endConditioning s hs h.1, h.2⟩
  powerOn s a h := ⟨law_hostQueue.powerOn s a h.1,
    State.countLaw_of_empty (State.powerOn_queue a) rfl fun i => congrArg Region.refCount (State.reset_regions i)⟩
  softResetIdle s hs h := ⟨law_hostQueue.softResetIdle s hs h.1,
    State.countLaw_of_empty State.softResetIdle_queue rfl fun i => congrArg Region.refCount (get_map ..)⟩
  commitRegion s i g cls hv ho h := by
    refine ⟨law_hostQueue.commitRegion s i g cls hv ho h.1, fun j => ?_⟩
    have hout : (s.commitRegion i (g.toRegion cls (s.regions.get i).refCount)).outstanding = s.outstanding := by
      rw [State.commitRegion_eq]; rfl
    rw [hout, State.commitRegion_regions, get_put]
    split
    next hij => exact hij ▸ h.2 i
    · exact h.2 j
  finish _ _ ht h := ⟨law_hostQueue.finish _ _ ht h.1, h.2.of_finished h.1.tagsDistinct ht⟩
  inPlace _ _ ht h := ⟨h.1.of_inPlace ht, h.2.of_inPlace h.1.tagsDistinct ht⟩
  file _ _ _ _ ht h := ⟨law_hostQueue.file _ _ _ _ ht h.1, h.2.of_filed ht⟩
  takeExpiry s h := State.takeExpiry_moves (I := State.CountsSound) (fun _ _ hu => hu) (fun _ _ hu => hu)
    (fun _ _ hu => hu) (fun _ _ hv hu => ⟨hu.1.of_inPlace hv, hu.2.of_inPlace hu.1.tagsDistinct hv⟩) h

/-! ### The accounts -/

theorem State.retireOne_account (b c : BankId) :
    (s.retireOne b).account c = if b = c then (s.account b).pay else s.account c := by
  have h : (s.retireOne b).account c = (s.modAccount b Account.pay).account c := by
    unfold State.retireOne; dsimp only; split <;> rfl
  rw [h, State.modAccount_account]

theorem State.retireOne_regions (b : BankId) : (s.retireOne b).regions = s.regions := by rw [State.retireOne_eq]

theorem State.critical_raised (b : BankId) :
    (s.modAccount b fun a => { a with debt := a.debt + 1 }).critical b = true ↔ (s.account b).debt = 7 := by
  unfold State.critical
  rw [State.modAccount_account_self, beq_iff_eq]
  change (s.account b).debt + 1 = 8 ↔ _
  omega

theorem State.expiryAt_account (b c : BankId) : (s.expiryAt b).account c =
    if b = c ∧ (s.account b).debt < 8 then { s.account b with debt := (s.account b).debt + 1 } else s.account c := by
  have hraised : (s.account b).debt < 8 →
      (s.expiryAt b).account c = (s.modAccount b fun a => { a with debt := a.debt + 1 }).account c := by
    intro hd
    unfold State.expiryAt
    dsimp only
    rw [if_pos hd]
    split
    · rw [State.account, State.post_refresh]; rfl
    · rfl
  by_cases hd : (s.account b).debt < 8
  · rw [hraised hd, State.modAccount_account]
    simp [hd]
  · rw [if_neg (by simp [hd]), State.expiryAt, if_neg hd, State.account, State.post_refresh]
    rfl

/-- A rise to 8 suspends the records ACTIVE on the bank (R123). -/
theorem State.expiryAt_outstanding (b : BankId) : (s.expiryAt b).outstanding =
    if (s.account b).debt = 7 then s.outstanding.map (Record.suspend b) else s.outstanding := by
  have hpost : ∀ (u : State) k o g d, (u.post k o g d).outstanding = u.outstanding := by
    intro u k o g d; rw [State.post_eq]; rfl
  have hsusp : ∀ u : State, (u.suspendBank b).outstanding = u.outstanding.map (Record.suspend b) := by
    intro u
    unfold State.outstanding
    rw [List.map_flatMap]
    congr 1
    funext who
    exact u.suspendBank_queueOf b who
  unfold State.expiryAt
  dsimp only
  by_cases hd : (s.account b).debt < 8
  · rw [if_pos hd]
    by_cases h7 : (s.account b).debt = 7
    · rw [if_pos h7, if_pos (State.critical_raised b |>.2 h7), hpost, hsusp]; rfl
    · rw [if_neg h7, if_neg (State.critical_raised b |>.not.2 h7)]; rfl
  · rw [if_neg hd, hpost, if_neg (by omega)]

/-- Debt and pointer lie in their ranges (R110). -/
def Account.InRange (a : Account) : Prop := -4 ≤ a.debt ∧ a.debt ≤ 8 ∧ a.pointer ≤ 128

theorem Account.InRange.pay {a : Account} (h : a.InRange) (hd : -4 < a.debt) : a.pay.InRange := by
  obtain ⟨h1, h2, h3⟩ := h
  unfold Account.pay Account.stepPointer
  split <;> refine ⟨?_, ?_, ?_⟩ <;> dsimp only <;> omega

theorem State.AccountsInRange.of_accounts (h : s.AccountsInRange)
    (ht : ∀ b, t.account b = s.account b ∨ (t.account b).InRange) : t.AccountsInRange := fun b => by
  obtain hb | hb := ht b
  · rw [hb]; exact h b
  · exact hb

theorem State.AccountsInRange.retireOne {b : BankId} (hm : s.mayRetire b = true) (h : s.AccountsInRange) :
    (s.retireOne b).AccountsInRange := h.of_accounts fun c => by
  rw [State.retireOne_account]
  split
  next =>
    have hd : 0 < (s.account b).debt := by
      simp only [State.mayRetire, State.owed, Bool.and_eq_true, decide_eq_true_eq] at hm
      exact hm.1
    exact .inr (Account.InRange.pay (h b) (by omega))
  · exact .inl rfl

theorem State.AccountsInRange.expiryAt (b : BankId) (h : s.AccountsInRange) : (s.expiryAt b).AccountsInRange :=
  h.of_accounts fun c => by
    rw [State.expiryAt_account]
    split
    next hbc =>
      obtain ⟨rfl, hd⟩ := hbc
      obtain ⟨h1, -, h3⟩ := h b
      exact .inr ⟨by dsimp only; omega, by dsimp only; omega, h3⟩
    · exact .inl rfl

theorem law_accounts : Law State.AccountsInRange where
  endConditioning _ _ _ := State.reset_accountsInRange
  powerOn _ _ _ := State.reset_accountsInRange
  softResetIdle _ _ _ := State.reset_accountsInRange
  commitRegion _ _ _ _ _ _ h :=
    State.commitRegion_induct (I := State.AccountsInRange) (fun _ _ => State.AccountsInRange.retireOne) h
  takeExpiry _ h := State.takeExpiry_induct (I := State.AccountsInRange) (fun _ b => State.AccountsInRange.expiryAt b)
    (fun _ _ => State.AccountsInRange.retireOne) (fun _ _ hu => hu) h
  payRefresh s b hd h := by
    refine State.retirementCheck_induct (I := State.AccountsInRange) (fun _ => State.AccountsInRange.retireOne) ?_
    refine h.of_accounts fun c => ?_
    rw [State.modAccount_account]
    split
    next => exact .inr (Account.InRange.pay (h b) hd)
    · exact .inl rfl

/-! ### Critical banks -/

theorem State.CriticalBanksFree.of_accounts (h : s.CriticalBanksFree) (ho : t.outstanding = s.outstanding)
    (hd : ∀ b, (t.account b).debt ≤ (s.account b).debt ∨ (t.account b).debt < 8) : t.CriticalBanksFree := by
  intro b hb
  obtain hle | hlt := hd b
  · rw [ho]
    exact h b (hb.trans hle)
  · omega

theorem State.retireOne_outstanding (b : BankId) : (s.retireOne b).outstanding = s.outstanding := by
  rw [State.retireOne_eq]; rfl

theorem Account.pay_debt (a : Account) : a.pay.debt = a.debt - 1 := rfl

theorem State.CriticalBanksFree.retireOne (b : BankId) (h : s.CriticalBanksFree) : (s.retireOne b).CriticalBanksFree :=
  h.of_accounts (s.retireOne_outstanding b) fun c => by
    rw [State.retireOne_account]
    split
    next hbc => subst hbc; rw [Account.pay_debt]; omega
    · exact .inl le_rfl

/-- The records on a bank that rises to 8 are suspended, so none of them is ACTIVE (R48, R123). -/
theorem State.CriticalBanksFree.expiryAt (b : BankId) (h : s.CriticalBanksFree) : (s.expiryAt b).CriticalBanksFree := by
  intro c hc r hr hra
  rw [State.expiryAt_account] at hc
  rw [State.expiryAt_outstanding] at hr
  by_cases h7 : (s.account b).debt = 7
  · rw [if_pos h7] at hr
    obtain ⟨q, hq, rfl⟩ := List.mem_map.1 hr
    have hne : (q.suspend b).bank ≠ b := fun hb => Record.suspend_not_active b q ⟨hra, hb⟩
    by_cases hbc : b = c
    · exact hbc ▸ hne
    · rw [if_neg (by simp [hbc])] at hc
      have he := Record.suspend_of_active hra
      rw [he] at hra ⊢
      exact h c hc q hq hra
  · rw [if_neg h7] at hr
    split at hc
    next hbc =>
      obtain ⟨rfl, hd⟩ := hbc
      dsimp only at hc
      omega
    · exact h c hc r hr hra

theorem State.Finished.outstanding_subset (ht : s.Finished t) {r : Record} (hr : r ∈ t.outstanding) : r ∈ s.outstanding := by
  obtain ⟨who, hw⟩ := State.mem_outstanding.1 hr
  exact State.mem_outstanding.2 ⟨who, (ht.left who).subset hw⟩

theorem law_critical : Law State.CriticalBanksFree where
  endConditioning s _ h b hb := by
    change 8 ≤ (State.reset.account b).debt at hb
    rw [State.reset_account] at hb
    dsimp only at hb
    omega
  powerOn _ a _ := State.criticalBanksFree_of_empty (State.powerOn_queue a) rfl
  softResetIdle _ _ _ := State.criticalBanksFree_of_empty State.softResetIdle_queue rfl
  commitRegion _ _ _ _ _ _ h :=
    State.commitRegion_induct (I := State.CriticalBanksFree) (fun _ b _ => State.CriticalBanksFree.retireOne b) h
  finish s t ht h b hb r hr hra := by
    have hacc : t.account b = s.account b := by rw [ht.frame]; rfl
    exact h b (hacc ▸ hb) r (ht.outstanding_subset hr) hra
  inPlace s t ht h b hb r hr hra := by
    have hacc : t.account b = s.account b := by rw [ht.frame]; rfl
    rw [hacc] at hb
    rintro rfl
    obtain hlt | ⟨q, hq, hqa, hqb⟩ := ht.active r hr hra
    · omega
    · exact h r.bank hb q hq hqa hqb
  file s t who r ht h b hb q hq hqa := by
    have hacc : t.account b = s.account b := by rw [ht.frame]; rfl
    obtain hq | hq := List.mem_append.1 (ht.outstanding.subset hq)
    · obtain rfl := List.mem_singleton.1 hq
      rw [Record.isActive, ht.queued.1] at hqa
      cases hqa
    · exact h b (hacc ▸ hb) q hq hqa
  takeExpiry _ h := State.takeExpiry_induct (I := State.CriticalBanksFree)
    (fun _ b => State.CriticalBanksFree.expiryAt b) (fun _ b _ => State.CriticalBanksFree.retireOne b) (fun _ _ hu => hu) h
  payRefresh s b _ h := by
    refine State.retirementCheck_induct (I := State.CriticalBanksFree)
      (fun _ _ => State.CriticalBanksFree.retireOne b) ?_
    refine h.of_accounts rfl fun c => ?_
    rw [State.modAccount_account]
    split
    next hbc => subst hbc; rw [Account.pay_debt]; omega
    · exact .inl le_rfl

/-! ### Pointers -/

/-- A positive debt of the bank stands before a group that needs a real refresh (R120). -/
def State.PointerSettled (s : State) (b : BankId) : Prop := 0 < (s.account b).debt → s.pointerNeedsRefresh b = true

theorem State.PointerSettled.of_eq {b : BankId} (h : s.PointerSettled b) (ha : t.account b = s.account b)
    (hc : classOf t.regions b (s.account b).pointer = classOf s.regions b (s.account b).pointer) : t.PointerSettled b := by
  unfold State.PointerSettled State.pointerNeedsRefresh
  rw [ha, hc]
  exact h

/-- A check leaves no group to retire: with the debt as fuel the retirements end at debt 0 or at a group that needs a real
refresh (R119). -/
theorem State.retirementCheck_settles (b : BankId) : (s.retirementCheck b).PointerSettled b := by
  have key : ∀ n (u : State), (u.account b).debt.toNat ≤ n → (State.retireUpTo b n u).PointerSettled b := by
    intro n
    induction n with
    | zero =>
      intro u hn hd
      change 0 < (u.account b).debt at hd
      omega
    | succ n ih =>
      intro u hn
      unfold State.retireUpTo
      split
      · refine ih _ ?_
        rw [State.retireOne_account, if_pos rfl, Account.pay_debt]
        omega
      next hm =>
        intro hd
        by_contra hp
        exact hm (by simp [State.mayRetire, State.owed, hd, hp])
  exact key _ s le_rfl

theorem State.retirementCheck_regions (b : BankId) : (s.retirementCheck b).regions = s.regions := by
  rw [State.retirementCheck_eq]

theorem State.retirementCheck_account_of_ne {b c : BankId} (h : b ≠ c) :
    (s.retirementCheck b).account c = s.account c :=
  State.retirementCheck_induct (I := fun u => u.account c = s.account c)
    (fun u _ hu => by rw [State.retireOne_account, if_neg h, hu]) rfl

theorem State.PointerSettled.retirementCheck {b : BankId} (c : BankId) (h : s.PointerSettled b ∨ c = b) :
    (s.retirementCheck c).PointerSettled b := by
  by_cases hcb : c = b
  · exact hcb ▸ State.retirementCheck_settles c
  · exact (h.resolve_right hcb).of_eq (State.retirementCheck_account_of_ne hcb) (by rw [State.retirementCheck_regions])

/-- The checks of the banks with `q` settle these, and leave settled what is. -/
theorem State.retirementChecks_settle (q : BankId → Bool) {b : BankId} (l : List BankId)
    (h : s.PointerSettled b ∨ b ∈ l ∧ q b = true) :
    (l.foldl (fun u c => if q c then u.retirementCheck c else u) s).PointerSettled b := by
  induction l generalizing s with
  | nil => exact h.resolve_right (by simp)
  | cons c l ih =>
    refine ih ?_
    dsimp only
    by_cases hc : c = b ∧ q c = true
    · obtain ⟨rfl, hq⟩ := hc
      exact .inl (by rw [if_pos hq]; exact State.retirementCheck_settles c)
    · obtain h | ⟨hm, hq⟩ := h
      · left
        split
        · exact .retirementCheck c (.inl h)
        · exact h
      · obtain rfl | hm := List.mem_cons.1 hm
        · exact absurd ⟨rfl, hq⟩ hc
        · exact .inr ⟨hm, hq⟩

theorem State.takeExpiry_settles (b : BankId) : s.takeExpiry.PointerSettled b := by
  have h := State.retirementChecks_settle (s := allBanks.foldl State.expiryAt s) (fun _ => true) allBanks
    (.inr ⟨mem_allBanks b, rfl⟩)
  simp only [if_true] at h
  unfold State.takeExpiry
  dsimp only
  generalize List.foldl _ _ allBanks = u at h ⊢
  exact h.of_eq rfl rfl

/-- What classes depend on: the entries but for their counts. -/
theorem classOf_congr {v w : Vector Region 16} (h : ∀ i, ∃ n, w.get i = { v.get i with refCount := n }) (b : BankId)
    (g : Nat) : classOf w b g = classOf v b g := by
  have hcov : ∀ i, (w.get i).covers b g = (v.get i).covers b g := fun i => by
    obtain ⟨n, hn⟩ := h i
    rw [hn]; rfl
  have hcls : ∀ i, (w.get i).cls = (v.get i).cls := fun i => by
    obtain ⟨n, hn⟩ := h i
    rw [hn]
  unfold classOf coveringRegion
  simp only [hcov, hcls]

theorem State.PointersNeedRefresh.of_counts (h : s.PointersNeedRefresh) (ha : t.refresh = s.refresh)
    (hr : ∀ i, ∃ n, t.regions.get i = { s.regions.get i with refCount := n }) : t.PointersNeedRefresh := fun b =>
  State.PointerSettled.of_eq (h b) (congrArg (fun r : RefreshEngine => r.accounts.get b) ha) (classOf_congr hr b _)

/-- The pointers' law with the ranges of the accounts, which have every pointer at a group whose class a commit compares. -/
def State.PointersSound (s : State) : Prop := s.AccountsInRange ∧ s.PointersNeedRefresh

theorem law_pointers : Law State.PointersSound where
  endConditioning s hs h := ⟨law_accounts.endConditioning s hs h.1, fun b hb => by
    change 0 < (State.reset.account b).debt at hb
    rw [State.reset_account] at hb
    cases hb⟩
  powerOn s a h := ⟨law_accounts.powerOn s a h.1, State.reset_pointersNeedRefresh⟩
  softResetIdle s hs h := ⟨law_accounts.softResetIdle s hs h.1, fun b hb => by
    change 0 < (State.reset.account b).debt at hb
    rw [State.reset_account] at hb
    cases hb⟩
  commitRegion s i g cls hv ho h := by
    refine ⟨law_accounts.commitRegion s i g cls hv ho h.1, fun b => ?_⟩
    unfold State.commitRegion
    dsimp only
    refine State.retirementChecks_settle _ allBanks ?_
    by_cases hc : classChanged s.regions (s.modRegion i fun _ => g.toRegion cls (s.regions.get i).refCount).regions b
    · exact .inr ⟨mem_allBanks b, hc⟩
    · left
      refine State.PointerSettled.of_eq (h.2 b) rfl ?_
      have hp := (h.1 b).2.2
      unfold classChanged at hc
      rw [List.any_eq_true, not_exists] at hc
      have := hc (s.account b).pointer
      simp only [List.mem_range, not_and, bne_iff_ne, ne_eq, Decidable.not_not] at this
      exact (this (by omega)).symm
  finish s t ht h := ⟨law_accounts.finish s t ht h.1, h.2.of_counts (by rw [ht.frame]) ht.tables.regions⟩
  inPlace s t ht h := ⟨law_accounts.inPlace s t ht h.1, by
    have hp := h.2
    rw [ht.frame]
    exact hp⟩
  file s t who r ht h := ⟨law_accounts.file s t who r ht h.1, h.2.of_counts (by rw [ht.frame]) fun i => ⟨_, ht.counted i⟩⟩
  takeExpiry s h := ⟨law_accounts.takeExpiry s h.1, State.takeExpiry_settles⟩
  payRefresh s b hd h := by
    refine ⟨law_accounts.payRefresh s b hd h.1, fun c => ?_⟩
    refine State.PointerSettled.retirementCheck b ?_
    by_cases hbc : b = c
    · exact .inr hbc
    · exact .inl (State.PointerSettled.of_eq (h.2 c) (by rw [State.modAccount_account, if_neg hbc]) rfl)

end Sys2Proof.Machine

open Sys2Proof Sys2Proof.Machine

/-- Settles O5: each law at the reset state. -/
theorem lawsHoldAtReset : Obligations.LawsHoldAtReset := State.reset_sound

/-- Settles O6: the rank is written, forgotten from and emptied, each of which keeps its order. -/
theorem stepKeepsMemoryCanonical : Obligations.StepKeepsMemoryCanonical := fun _ _ => law_memory.step

/-- Settles O7: a field takes a value within its range alone, and the wheel position goes on within the wheel. -/
theorem stepKeepsPagesInRange : Obligations.StepKeepsPagesInRange := fun _ _ => law_pages.step

/-- Settles O8: a page is checked before its flip or its drain, and no edit reaches it while the drain lasts. -/
theorem stepKeepsRunPageValid : Obligations.StepKeepsRunPageValid := fun _ _ => law_runPageValid.step

/-- Settles O9: the commits check what they store. -/
theorem stepKeepsTablesUnambiguous : Obligations.StepKeepsTablesUnambiguous :=
  ⟨fun _ _ => law_ranges.step, fun _ _ => law_disjoint.step, fun _ _ => law_remap.step⟩

/-- Settles O10: an OPEN takes the translation of its row, and no edit that is taken touches a row held open. -/
theorem stepKeepsOpenRowsAndMarks : Obligations.StepKeepsOpenRowsAndMarks :=
  ⟨fun _ _ => law_rows.step, fun _ _ => law_marks.step⟩

/-- Settles O11: records are filed in a running state with room and a tag of their own. -/
theorem stepKeepsPortQueuesSound : Obligations.StepKeepsPortQueuesSound := fun _ _ => law_queues.step

/-- Settles O12: a slot is QUEUED when its record is filed, and no more when the record leaves. -/
theorem stepKeepsHostQueueSound : Obligations.StepKeepsHostQueueSound := fun _ _ hq hh hstep =>
  (State.allQueuesSound_iff.1 (law_hostQueue.step (State.allQueuesSound_iff.2 ⟨hq, hh⟩) hstep)).2

/-- Settles O14: a filing counts its record, a finish takes it from the count, and nothing else changes either. -/
theorem stepKeepsCountLaw : Obligations.StepKeepsCountLaw := fun _ _ hq hh hc hstep =>
  (law_counts.step ⟨State.allQueuesSound_iff.2 ⟨hq, hh⟩, hc⟩ hstep).2

/-- Settles O15: a debt rises below 8 alone, and is paid above -4 alone. -/
theorem stepKeepsDebtBound : Obligations.StepKeepsDebtBound := fun _ _ => law_accounts.step

/-- Settles O16: a retirement check ends at debt 0 or at a group that needs a real refresh. -/
theorem stepKeepsPointersAtGroupsThatNeedRefresh : Obligations.StepKeepsPointersAtGroupsThatNeedRefresh :=
  fun _ _ ha hp hstep => (law_pointers.step ⟨ha, hp⟩ hstep).2

/-- Settles O17: a rise to 8 suspends the ACTIVE records of the bank, and no burst is made at a debt of 8. -/
theorem stepKeepsCriticalBanksFree : Obligations.StepKeepsCriticalBanksFree := fun _ _ => law_critical.step

/-- Settles O18: START begins the conditioning, and what ends it leaves INIT. -/
theorem stepKeepsConditioningInInit : Obligations.StepKeepsConditioningInInit := fun _ _ => law_conditioning.step

/-- Settles O19: a refill stops at the capacity, and a flip clamps the count. -/
theorem stepKeepsCreditInCapacity : Obligations.StepKeepsCreditInCapacity := fun _ _ => law_credit.step

/-- Settles O20: a post to a queue of 15 makes the sixteenth record an OVERFLOW, and later posts count in it. -/
theorem stepKeepsEventQueueSound : Obligations.StepKeepsEventQueueSound := fun _ _ => law_events.step

end

section
/-! PROOFS. The commands of tier 1: the queue of commands, the RESET line, the host's plain registers, the slots' ACK, the
scheduler's plain commands and the bank timers. -/

-- One proof after another: a thread for each would reserve more memory than the check allows.
set_option Elab.async false

namespace Sys2Proof.Machine

variable {s t : State}

/-! ### The waiting commands and the RESET line -/

/-- No move touches the waiting commands. -/
theorem law_pending (q : List Instr) : Law fun s => s.pending = q where
  powerOn _ _ h := h
  softResetIdle _ _ h := h

theorem State.after_pending (c : Instr) : (s.after c).pending = s.pending := (law_pending s.pending).after rfl c

theorem exec_answers (c : Instr) : ∃ t, exec c s = .next t ∧ t.pending = s.pending := by
  by_cases hr : s.resetAsserted = true
  · obtain h | ⟨a, rfl⟩ | ⟨p, rfl⟩ | ⟨p, rfl⟩ := exec_of_asserted hr c
    · exact ⟨s, h, rfl⟩
    · exact ⟨_, exec_powerOnReset a, State.after_pending (.powerOnReset a)⟩
    · exact ⟨_, exec_prstAssert p, State.after_pending (.prstAssert p)⟩
    · exact ⟨_, exec_prstDeassert p, State.after_pending (.prstDeassert p)⟩
  · exact ⟨_, exec_next (by simpa [State.Released] using hr) c, State.after_pending c⟩

/-! ### Register writes -/

/-- The low bits that a layout names are the word cut to their width. -/
theorem ofNat_bits_low (w : Word) (n : Nat) : BitVec.ofNat (n + 1) (bits w.toNat n 0) = w.setWidth (n + 1) := by
  apply BitVec.eq_of_toNat_eq
  simp [bits]

theorem toNat_setWidth_bits (w : Word) (n : Nat) : bits w.toNat n 0 = (w.setWidth (n + 1)).toNat := by
  simp [bits]

/-- Bits 5 and 4, which port control and bank status read. -/
theorem toNat_extract_bits (w : Word) : bits w.toNat 5 4 = (w.extractLsb' 4 2).toNat := by
  simp [bits, Nat.shiftRight_eq_div_pow]

namespace State

theorem hostWrite_slot (k : SlotId) (j : Fin 4) (w : Word) :
    s.hostWrite (BitVec.ofNat 5 (0x10 + j.val + 4 * k.val)) w =
      match j with
      | 0 => s.modSlot k fun e => { e with addrHigh := BitVec.ofNat 5 (bits w.toNat 4 0) }
      | 1 => s.modSlot k fun e => { e with addrLow := w }
      | 2 => s.modSlot k fun e => { e with data := w }
      | 3 => s.slotControlWrite k (bits w.toNat 1 0) := by
  fin_cases k <;> fin_cases j <;> rfl

theorem hostWrite_slotControl (k : SlotId) (w : Word) :
    s.hostWrite (BitVec.ofNat 5 (0x13 + 4 * k.val)) w = s.slotControlWrite k (w.setWidth 2).toNat := by
  rw [← toNat_setWidth_bits w 1]
  exact hostWrite_slot k 3 w

theorem hostWrite_stage (i : Fin 3) (w : Word) : s.hostWrite (BitVec.ofNat 5 (0x0B + i.val)) w = s.writeStage i w := by
  fin_cases i <;> rfl

theorem hostWrite_readOnly {a : BitVec 5} (ha : a ∈ [0x01#5, 0x05#5, 0x06#5, 0x07#5, 0x08#5, 0x0F#5]) (w : Word) :
    s.hostWrite a w = s := by
  simp only [List.mem_cons, List.not_mem_nil, or_false] at ha
  obtain rfl | rfl | rfl | rfl | rfl | rfl := ha <;> rfl

theorem hostWrite_command (w : Word) : s.hostWrite 0x00 w = s.commandWrite (w.setWidth 4).toNat :=
  congrArg s.commandWrite (toNat_setWidth_bits w 3)

theorem hostWrite_portControl {w : Word} {p : PortId} (hp : w.setWidth 2 = BitVec.ofNat 2 p.val) :
    s.hostWrite 0x02 w = s.portControlWrite p (w.extractLsb' 4 2).toNat := by
  have hpv : bits w.toNat 1 0 = p.val := by
    rw [toNat_setWidth_bits, hp, BitVec.toNat_ofNat]
    omega
  change s.portControlWrite ⟨bits w.toNat 1 0, _⟩ (bits w.toNat 5 4) = _
  rw [toNat_extract_bits]
  congr 1
  exact Fin.ext hpv

theorem hostWrite_bankStatus {w : Word} {b : BankId} {v : Fin 4} (hb : w.setWidth 2 = BitVec.ofNat 2 b.val)
    (hv : w.extractLsb' 4 2 = BitVec.ofNat 2 v.val) : s.hostWrite 0x0E w = s.selectBank b v := by
  have hbv : bits w.toNat 1 0 = b.val := by
    rw [toNat_setWidth_bits, hb, BitVec.toNat_ofNat]
    omega
  have hvv : bits w.toNat 5 4 = v.val := by
    rw [toNat_extract_bits, hv, BitVec.toNat_ofNat]
    omega
  change s.selectBank ⟨bits w.toNat 1 0, _⟩ ⟨bits w.toNat 5 4, _⟩ = _
  congr 1
  · exact Fin.ext hbv
  · exact Fin.ext hvv

theorem hostWrite_enables (w : Word) : s.hostWrite 0x03 w = s.writeEnables (w.setWidth 4) :=
  congrArg s.writeEnables (ofNat_bits_low w 3)

theorem hostWrite_mask (w : Word) : s.hostWrite 0x04 w = s.writeMask (w.setWidth 8) :=
  congrArg s.writeMask (ofNat_bits_low w 7)

theorem portControlWrite_other {p : PortId} {action : BitVec 2} (h1 : action ≠ 1#2) (h2 : action ≠ 2#2) :
    s.portControlWrite p action.toNat = s.selectPort p := by
  unfold portControlWrite
  split
  next h => exact absurd (BitVec.eq_of_toNat_eq h) h1
  next h => exact absurd (BitVec.eq_of_toNat_eq h) h2
  · rfl

/-- A write in a window of its own is one in the window that it begins. -/
theorem live_inWindow {next : Bool} (h : next = true → s.Released) (f : State → State) :
    (s.live fun s => f (s.inWindow next)) = (s.inWindow next).live f := by
  cases next with
  | false => rfl
  | true =>
    have hu : (s.inWindow true).Released := by
      rw [inWindow_true, beginWindow_eq]
      exact h rfl
    rw [live_of_released (h rfl), live_of_released hu]

theorem exec_registerWrite_inWindow {next : Bool} (h : next = true → s.Released) (a : BitVec 5) (w : Word) :
    exec (.registerWrite a w next) s = (s.inWindow next).live fun u => u.hostWrite a w :=
  live_inWindow h fun u => u.hostWrite a w

/-! ### The timers of a bank -/

theorem openDelayExpiry_none {b : BankId} (h : ∀ row phys, (s.banks.get b).state ≠ .opening row phys 0) :
    s.openDelayExpiry b = s := by
  unfold openDelayExpiry
  split
  next hs => exact absurd hs (h _ _)
  · rfl

theorem openDelayExpiry_some {b : BankId} {row : Fin 2048} {phys : Nat}
    (h : (s.banks.get b).state = .opening row phys 0) :
    s.openDelayExpiry b = s.modBank b fun k => { k with state := .opened row phys } := by
  unfold openDelayExpiry
  rw [h]
  rfl

theorem closeDelayExpiry_eq (b : BankId) : s.closeDelayExpiry b =
    if (s.banks.get b).state = .closing 0 then s.modBank b fun k => { k with state := .closed } else s := by
  unfold closeDelayExpiry
  split
  next h => rw [if_pos h]
  next h => rw [if_neg h]

theorem refreshTimeExpiry_eq (b : BankId) : s.refreshTimeExpiry b =
    if (s.banks.get b).state = .refreshing 0 then
      if s.refresh.conditioning = .trailing ∧ b = 3 then (s.modBank b fun k => { k with state := .closed }).endConditioning
      else s.modBank b fun k => { k with state := .closed }
    else s := by
  unfold refreshTimeExpiry
  split
  next h => rw [if_pos h]
  next h => rw [if_neg h]

theorem rowMinExpiry_eq (b : BankId) : s.rowMinExpiry b =
    if (s.banks.get b).rowMin = some 0 then s.modBank b fun k => { k with rowMin := none } else s := by
  unfold rowMinExpiry
  split
  next h => rw [if_pos h]
  next h => rw [if_neg h]

theorem writeRecoveryExpiry_eq (b : BankId) : s.writeRecoveryExpiry b =
    if (s.banks.get b).writeRecovery = some 0 then s.modBank b fun k => { k with writeRecovery := none } else s := by
  unfold writeRecoveryExpiry
  split
  next h => rw [if_pos h]
  next h => rw [if_neg h]

end State

end Sys2Proof.Machine

open Sys2Proof Sys2Proof.Machine

/-- Settles O1: by the definition of a step. -/
theorem stepRunsFrontCommand : Obligations.StepRunsFrontCommand := by
  constructor
  · intro c rest s h
    simp only [step, h]
  · intro s h
    simp only [step, h]

/-- Settles O2: every row answers a next state, and no move touches the waiting commands. -/
theorem everyCommandAnswersAndKeepsQueue : Obligations.EveryCommandAnswersAndKeepsQueue := fun c _ => exec_answers c

/-- Settles O3: what the line does, what a part in reset ignores, and what its outputs show. -/
theorem resetLineHoldsPowerOnValues : Obligations.ResetLineHoldsPowerOnValues := by
  intro s
  refine ⟨rfl, fun hr => ?_, fun ha => ⟨?_, fun c h1 h2 h3 => ?_, ?_, fun a => ?_, fun w => ?_⟩, fun hr w => ?_⟩
  · rw [exec_powerOnReset, State.resetLine, if_neg (by simp), if_neg (by simpa [State.Released] using hr)]
  · rw [exec_powerOnReset, State.resetLine, if_neg (by simp), if_pos ha]
    rfl
  · obtain h | ⟨a, rfl⟩ | ⟨p, rfl⟩ | ⟨p, rfl⟩ := exec_of_asserted ha c
    · exact h
    · exact absurd rfl (h1 a)
    · exact absurd rfl (h2 p)
    · exact absurd rfl (h3 p)
  · simp [State.int, ha]
  · simp [State.hostRead, ha]
  · simp [State.hostReady, ha]
  · simp [State.hostReady, show s.resetAsserted = false from hr]

/-- Settles O4: the reset state, evaluated. -/
theorem powerOnValues : Obligations.PowerOnValues := by
  unfold Obligations.PowerOnValues
  decide

/-- Settles O21: each write is the update of its one field. -/
theorem selectAndEnableWritesStore : Obligations.SelectAndEnableWritesStore := fun _ hr =>
  ⟨exec_portSelect hr, exec_portEnable hr, exec_bankStatusSelect hr, exec_interruptEnableWrite hr, exec_eventEnableWrite hr⟩

/-- Settles O22: the register's own update, at each address. -/
theorem registerWriteStores : Obligations.RegisterWriteStores := by
  intro s w next hr u
  have hw : ∀ a, exec (.registerWrite a w next) s = .next (u.hostWrite a w) := fun a => exec_registerWrite hr a w next
  refine ⟨?_, ?_, fun i => ?_, fun k => ?_, fun k => ?_, fun k => ?_, fun a ha => ?_, fun k hk => ?_⟩ <;> rw [hw]
  · rw [← ofNat_bits_low w 1]; rfl
  · rw [← ofNat_bits_low w 7]; rfl
  · rw [State.hostWrite_stage]; rfl
  · rw [← ofNat_bits_low w 4]; exact congrArg _ (State.hostWrite_slot k 0 w)
  · exact congrArg _ (State.hostWrite_slot k 1 w)
  · exact congrArg _ (State.hostWrite_slot k 2 w)
  · rw [State.hostWrite_readOnly ha]
  · rw [State.hostWrite_slotControl, hk]; rfl

/-- Settles O23: the register's write is the meaning of the command, with its operands. -/
theorem registerWriteDecodesCommands : Obligations.RegisterWriteDecodesCommands := by
  intro s w next hr u
  have hw : ∀ a, exec (.registerWrite a w next) s = u.live fun u => u.hostWrite a w :=
    fun a => State.exec_registerWrite_inWindow hr a w
  have hcmd : exec (.registerWrite 0x00 w next) s = u.live fun u => u.commandWrite (w.setWidth 4).toNat := by
    rw [hw]; simp only [State.hostWrite_command]
  refine ⟨fun c hc => ?_, fun h7 => ?_, fun hn => ?_, fun p hp => ⟨fun h => ?_, fun h => ?_, fun h1 h2 => ?_⟩, ?_, ?_,
    fun b v hb hv => ?_, fun k => ⟨fun h => ?_, fun h => ?_, fun h => ?_⟩⟩
  · rw [hcmd]
    simp only [List.mem_cons, List.not_mem_nil, or_false, Prod.mk.injEq] at hc
    obtain ⟨h, rfl⟩ | ⟨h, rfl⟩ | ⟨h, rfl⟩ | ⟨h, rfl⟩ | ⟨h, rfl⟩ | ⟨h, rfl⟩ | ⟨h, rfl⟩ := hc <;> rw [h] <;> rfl
  · rw [hcmd, h7]
    exact ⟨fun _ => rfl, fun _ => rfl, fun _ => rfl⟩
  · exact hcmd
  all_goals rw [hw]
  · simp only [State.hostWrite_portControl hp, h]; rfl
  · simp only [State.hostWrite_portControl hp, h]; rfl
  · simp only [State.hostWrite_portControl hp, State.portControlWrite_other h1 h2]; rfl
  · simp only [State.hostWrite_enables]; rfl
  · simp only [State.hostWrite_mask]; rfl
  · simp only [State.hostWrite_bankStatus hb hv]; rfl
  · simp only [State.hostWrite_slotControl, h]; rfl
  · simp only [State.hostWrite_slotControl, h]; rfl
  · simp only [State.hostWrite_slotControl, h]; rfl

/-- Settles O30: by the slot's state. -/
theorem ackFreesFinishedSlot : Obligations.AckFreesFinishedSlot := by
  intro s k hr
  refine ⟨fun h => ?_, fun h => ?_, fun h => ?_⟩ <;> rw [exec_ack hr, State.ackSlot]
  · obtain h | ⟨reason, h⟩ := h <;> rw [h] <;> rfl
  · rw [h]; rfl
  · rw [h]; rfl

/-- Settles O31: by the scheduler's state. -/
theorem startResumePageCopy : Obligations.StartResumePageCopy := by
  intro s hr answer
  refine ⟨fun h => ?_, fun h => ?_, fun h => ?_, fun h1 h2 => ?_, fun h => ?_, fun ret h => ?_⟩
  · rw [exec_start hr, State.start, h]; rfl
  · rw [exec_start hr, State.start]
    split
    next h' => exact absurd h' h
    · rfl
  · rw [exec_resume hr, State.resume]
    obtain h | h := h <;> rw [h] <;> rfl
  · rw [exec_resume hr, State.resume]
    split
    next h' => exact absurd h' h2
    next h' => exact absurd h' h1
    · rfl
  · rw [exec_pageCopy hr, State.pageCopy]
    split
    next h' => exact absurd h' (h _)
    · rfl
  · rw [exec_pageCopy hr, State.pageCopy, h]; rfl

/-- Settles O58: by the state of the timer. -/
theorem timersRunOut : Obligations.TimersRunOut := by
  intro s b hr bank become conditioned
  have hend : s.refresh.conditioning = .trailing → (s.banks.get 3).state = .refreshing 0 →
      s.refreshTimeExpiry 3 = conditioned := by
    intro hc hb
    rw [State.refreshTimeExpiry_eq, if_pos hb, if_pos ⟨hc, rfl⟩, State.endConditioning, State.post_eq]
    congr 1
    refine State.post_events_congr (s := s) ?_ _ _ _ _
    rfl
  refine ⟨fun row phys h => ?_, fun h => ?_, fun h => ?_, fun h => ?_, fun h hc => ?_, fun h => ?_,
    fun hc hb => ⟨?_, ?_⟩, fun h => ?_, fun h => ?_, fun h => ?_, fun h => ?_, fun h => ?_, fun h => ?_, fun h => ?_⟩
  · rw [exec_openDelayExpiry hr, State.openDelayExpiry_some h]; rfl
  · rw [exec_openDelayExpiry hr, State.openDelayExpiry_none h]
  · rw [exec_closeDelayExpiry hr, State.closeDelayExpiry_eq, if_pos h]; rfl
  · rw [exec_closeDelayExpiry hr, State.closeDelayExpiry_eq, if_neg h]
  · rw [exec_refreshTimeExpiry hr, State.refreshTimeExpiry_eq, if_pos h, if_neg hc]; rfl
  · rw [exec_refreshTimeExpiry hr, State.refreshTimeExpiry_eq, if_neg h]
  · rw [exec_refreshTimeExpiry hr, hend hc hb]
  · rw [exec_conditioningEnd hr, State.conditioningEnd, if_pos hc, hend hc hb]
  · rw [exec_conditioningEnd hr, State.conditioningEnd]
    split
    next hc => rw [State.refreshTimeExpiry_eq, if_neg (h.resolve_left (not_not.2 hc))]
    · rfl
  · rw [exec_rowMinExpiry hr, State.rowMinExpiry_eq, if_pos h]; rfl
  · rw [exec_rowMinExpiry hr, State.rowMinExpiry_eq, if_neg h]
  · rw [exec_writeRecoveryExpiry hr, State.writeRecoveryExpiry_eq, if_pos h]; rfl
  · rw [exec_writeRecoveryExpiry hr, State.writeRecoveryExpiry_eq, if_neg h]
  · rw [exec_refill hr, State.refill, if_pos h]; rfl
  · rw [exec_refill hr, State.refill, if_neg (by simp [h])]

end

section
/-! PROOFS. Mode control's commands: HOLD, SWITCH with its page checks, SOFT_RESET and the completion of a drain. -/

-- One proof after another: a thread for each would reserve more memory than the check allows.
set_option Elab.async false

namespace Sys2Proof.Machine

variable {s t : State}

theorem CreditBucket.restart_eq (c : CreditBucket) (counted : Bool) (period : Nat) :
    c.restart counted period =
      { count := c.count
        refillTimer := if counted then 1 else 0
        refillDue := if counted then decide (period ≤ 1) else c.refillDue } := by
  cases counted <;> simp [CreditBucket.restart, CreditBucket.tick]

namespace State

/-! ### The completion of a drain -/

theorem settleDrain_of_complete (hs : s.mode.sched = .drainHold) (hd : s.DrainComplete) :
    s.settleDrain = { s with
      mode := { s.mode with sched := .held }, events := (s.post .holdDone .none none 0).events } := by
  rw [settleDrain, if_pos ⟨hs, (drained_iff _).2 hd⟩, post_eq]
  congr 1
  refine post_events_congr (s := s) ?_ _ _ _ _
  rfl

theorem settleDrain_of_not (h : s.mode.sched ≠ .drainHold ∨ ¬s.DrainComplete) : s.settleDrain = s := by
  rw [settleDrain, if_neg]
  rintro ⟨hs, hd⟩
  exact h.elim (fun h => h hs) fun h => h ((drained_iff _).1 hd)

/-! ### The checks of a page -/

theorem validationDetail_of_relation1 {page : Page} (h : ¬page.openDelay + 1 ≤ page.rowMin) :
    s.validationDetail page = 1 := by
  rw [validationDetail, if_pos (by omega)]

theorem validationDetail_of_relation2 {page : Page} (h1 : page.openDelay + 1 ≤ page.rowMin)
    (h : ¬4 * page.refreshTime ≤ page.refreshInterval) : s.validationDetail page = 2 := by
  rw [validationDetail, if_neg (by omega), if_pos (by omega)]

theorem validationDetail_of_relation3 {page : Page} (h1 : page.openDelay + 1 ≤ page.rowMin)
    (h2 : 4 * page.refreshTime ≤ page.refreshInterval)
    (h : ¬∃ o ∈ page.wheel.toList.take page.wheelLength, o = .refresh ∨ o = .free) : s.validationDetail page = 3 := by
  rw [validationDetail, if_neg (by omega), if_neg (by omega), if_pos]
  rw [Bool.not_eq_true', ← Bool.not_eq_true, List.any_eq_true]
  simpa [Page.owners] using h

theorem validationDetail_of_relations {page : Page} (h1 : page.openDelay + 1 ≤ page.rowMin)
    (h2 : 4 * page.refreshTime ≤ page.refreshInterval)
    (h3 : ∃ o ∈ page.wheel.toList.take page.wheelLength, o = .refresh ∨ o = .free) :
    s.validationDetail page = ((s.missingPort page).map fun p => 4 + p.val).getD 0 := by
  rw [validationDetail, if_neg (by omega), if_neg (by omega), if_neg]
  · cases s.missingPort page <;> rfl
  · rw [Bool.not_eq_true', ← Bool.not_eq_true, not_not, List.any_eq_true]
    simpa [Page.owners] using h3

theorem mem_allPorts (p : PortId) : p ∈ allPorts := by
  revert p; decide

/-- The lowest-numbered enabled port that the wheel does not name (R136, check 4). -/
theorem missingPort_eq_some {page : Page} {p : PortId} (hen : (s.ports.get p).enabled = true)
    (hn : Owner.port p ∉ page.wheel.toList.take page.wheelLength)
    (hlow : ∀ q, q < p → (s.ports.get q).enabled = true → Owner.port q ∈ page.wheel.toList.take page.wheelLength) :
    s.missingPort page = some p := by
  have hq : ∀ q, ((s.ports.get q).enabled = true ∧ Owner.port q ∉ page.wheel.toList.take page.wheelLength) ↔
      ((s.ports.get q).enabled && !page.owners.contains (.port q)) = true := by
    intro q
    simp [Page.owners]
  have hfind := find?_isLowest hq
  have hlowest : IsLowest (fun q => (s.ports.get q).enabled = true ∧
      Owner.port q ∉ page.wheel.toList.take page.wheelLength) p := ⟨⟨hen, hn⟩, fun q hqp h => h.2 (hlow q hqp h.1)⟩
  change allBanks.find? _ = some p
  cases ho : allBanks.find? fun q => (s.ports.get q).enabled && !page.owners.contains (.port q) with
  | none => exact absurd hlowest (hfind.2 ho p)
  | some q => rw [(hfind.1 q ho).unique hlowest]

theorem missingPort_eq_none {page : Page}
    (h : ∀ p, (s.ports.get p).enabled = true → Owner.port p ∈ page.wheel.toList.take page.wheelLength) :
    s.missingPort page = none := by
  rw [missingPort, List.find?_eq_none]
  intro p _
  simpa [Page.owners] using h p

theorem missingPort_congr (h : ∀ p, (t.ports.get p).enabled = (s.ports.get p).enabled) (page : Page) :
    t.missingPort page = s.missingPort page := by
  unfold missingPort
  simp only [h]

theorem validationDetail_congr (h : ∀ p, (t.ports.get p).enabled = (s.ports.get p).enabled) (page : Page) :
    t.validationDetail page = s.validationDetail page := by
  unfold validationDetail
  rw [missingPort_congr h]

/-! ### SWITCH -/

theorem beginSwitch_of_valid {ret : ReturnState} (h : s.validationDetail s.editPage = 0) :
    s.beginSwitch ret = (s.setSched (.drainSwitch ret)).setResult .ok := by
  rw [beginSwitch, h]; rfl

theorem beginSwitch_of_invalid {ret : ReturnState} (h : s.validationDetail s.editPage ≠ 0) :
    s.beginSwitch ret =
      { s with host := { s.host with result := .pageInvalid, detail := s.validationDetail s.editPage } } := by
  unfold beginSwitch
  split
  next h0 => exact absurd h0 h
  · rfl

theorem switchStopped_of_invalid (h : s.validationDetail s.editPage ≠ 0) :
    s.switchStopped =
      { s with host := { s.host with result := .pageInvalid, detail := s.validationDetail s.editPage } } := by
  unfold switchStopped
  split
  next h0 => exact absurd h0 h
  · rfl

/-- A flip changes the selector, the wheel position and the credit bucket (R144, R147). -/
theorem flipPages_eq : s.flipPages = { s with
    mode := { s.mode with runSelect := s.mode.runSelect + 1 }
    arbiter := { s.arbiter with wheelPosition := 0 }
    credit :=
      { count := min s.credit.count s.editPage.creditCapacity
        refillTimer := if s.decided then 1 else 0
        refillDue := if s.decided then Decidable.decide (s.editPage.refillPeriod ≤ 1) else s.credit.refillDue } } := by
  unfold flipPages clampCredit
  dsimp only
  rw [CreditBucket.restart_eq]
  rfl

end State

theorem State.switchStopped_of_valid (h : s.validationDetail s.editPage = 0) : s.switchStopped = { s with
    mode := { s.mode with runSelect := s.mode.runSelect + 1 }
    arbiter := { s.arbiter with wheelPosition := 0 }
    credit :=
      { count := min s.credit.count s.editPage.creditCapacity
        refillTimer := if s.decided then 1 else 0
        refillDue := if s.decided then Decidable.decide (s.editPage.refillPeriod ≤ 1) else s.credit.refillDue }
    events := (s.post .switchDone .none none (s.mode.runSelect + 1).val).events
    host := { s.host with result := .ok, detail := 0 } } := by
  have hpost : (s.flipPages.post .switchDone .none none (s.mode.runSelect + 1).val).events =
      (s.post .switchDone .none none (s.mode.runSelect + 1).val).events :=
    State.post_events_congr (show s.flipPages.events = s.events by rw [State.flipPages_eq]) _ _ _ _
  have hflip : s.flipPages.postSwitchDone = { s.flipPages with
      events := (s.post .switchDone .none none (s.mode.runSelect + 1).val).events } := by
    rw [← hpost]
    exact State.post_eq ..
  unfold State.switchStopped
  rw [h]
  dsimp only
  rw [hflip, State.flipPages_eq]
  rfl

theorem State.switch_of_stopped (h : s.mode.sched = .stopped) : s.switch = s.switchStopped := by rw [State.switch, h]

theorem State.switch_of_init (h : s.mode.sched = .init) : s.switch = s.setResult .wrongState := by rw [State.switch, h]

theorem State.switch_of_run (h : s.mode.sched = .run) : s.switch = s.beginSwitch .run := by rw [State.switch, h]

theorem State.switch_of_held (h : s.mode.sched = .held) : s.switch = s.beginSwitch .held := by rw [State.switch, h]

/-! ### SOFT_RESET in a running state -/

theorem State.CountsLowered.trans {u : State} {l m : List Record} (h : s.CountsLowered t l) (h' : t.CountsLowered u m) :
    s.CountsLowered u (l ++ m) := fun i => by
  rw [h' i, h i, List.countP_append, ← Nat.sub_sub]

theorem State.PinsLowered.trans {u : State} {l m : List Record} (h : s.PinsLowered t l) (h' : t.PinsLowered u m) :
    s.PinsLowered u (l ++ m) := fun b => by
  rw [h' b, h b, List.countP_append, ← Nat.sub_sub]

theorem State.flushPort_eq (p : PortId) : s.flushPort p = { s with
    ports := (s.flushPort p).ports, regions := (s.flushPort p).regions, banks := (s.flushPort p).banks } := by
  unfold State.flushPort State.emptyPort
  dsimp only
  rw [State.releases_eq]
  rfl

theorem State.emptyPort_counts (p : PortId) (f : List Record → List Notice) :
    s.CountsLowered (s.emptyPort p f) (s.ports.get p).queue := s.releaseAll_counts _

theorem State.emptyPort_pins (p : PortId) (f : List Record → List Notice) :
    s.PinsLowered (s.emptyPort p f) (s.ports.get p).queue := s.releaseAll_pins _

/-- What the flushes of several ports change. -/
structure State.PortsFlushed (s t : State) (l : List PortId) : Prop where
  frame : t = { s with ports := t.ports, regions := t.regions, banks := t.banks }
  ports : ∀ p, t.ports.get p =
    if p ∈ l then { s.ports.get p with
      queue := []
      outbound := (s.ports.get p).outbound ++ (s.ports.get p).queue.map (Record.doneNotice .flushed) }
    else s.ports.get p
  counts : s.CountsLowered t (l.flatMap fun p => (s.ports.get p).queue)
  pins : s.PinsLowered t (l.flatMap fun p => (s.ports.get p).queue)

theorem State.flushPorts_flushed {l : List PortId} (hl : l.Nodup) : s.PortsFlushed (l.foldl State.flushPort s) l := by
  induction l generalizing s with
  | nil => exact ⟨rfl, by simp, by simp [State.CountsLowered], by simp [State.PinsLowered]⟩
  | cons p l ih =>
    obtain ⟨hp, hl⟩ := List.nodup_cons.1 hl
    obtain ⟨hframe, hports, hcounts, hpins⟩ := ih (s := s.flushPort p) hl
    have hget : ∀ q, (s.flushPort p).ports.get q = _ := fun q => s.emptyPort_get p q _
    have hqueues : (l.flatMap fun q => ((s.flushPort p).ports.get q).queue) = l.flatMap fun q => (s.ports.get q).queue := by
      refine List.flatMap_congr fun q hq => ?_
      rw [hget, if_neg (show p ≠ q from fun hpq => hp (hpq ▸ hq))]
    rw [hqueues] at hcounts hpins
    refine ⟨?_, fun q => ?_, (s.emptyPort_counts p _).trans hcounts, (s.emptyPort_pins p _).trans hpins⟩
    · rw [List.foldl_cons, hframe, s.flushPort_eq]
    · rw [List.foldl_cons, hports, hget]
      by_cases hpq : p = q
      · subst hpq
        simp [hp]
      · simp [hpq, Ne.symm hpq]

theorem State.outstanding_eq (s : State) :
    s.outstanding = (allPorts.flatMap fun p => (s.ports.get p).queue) ++ s.hostQueue := by
  simp [State.outstanding, allRequesters, allPorts, State.queueOf]

/-- What SOFT_RESET in a running state leaves of a slot (R151). -/
theorem Slot.flush_eq (k : Slot) : k.flush = if k.state = .queued then { k with state := .failed .flushed } else k := by
  unfold Slot.flush
  split
  next h => rw [if_pos h]
  next h => rw [if_neg h]

/-- The rest of SOFT_RESET in a running state (R151). -/
structure State.FlushedToHeld (s t : State) : Prop where
  frame : t = { s with
    mode := { s.mode with sched := .held }
    host := { s.host with slots := t.host.slots }
    ports := t.ports
    hostQueue := []
    regions := t.regions
    banks := t.banks
    refresh := { s.refresh with conditioning := .idle }
    arbiter := { s.arbiter with wheelPosition := 0, wrapHanded := false }
    events := { s.events with records := [] } }
  ports : ∀ p, t.ports.get p = { s.ports.get p with
    queue := []
    outbound := (s.ports.get p).outbound ++ (s.ports.get p).queue.map (Record.doneNotice .flushed) }
  slots : ∀ k, t.host.slots.get k = (s.host.slots.get k).flush
  counts : s.CountsLowered t s.outstanding
  banks : ∀ b, t.banks.get b =
    { s.banks.get b with
      pins := (s.banks.get b).pins - s.activeOn b
      closePending := (s.banks.get b).closePending || (s.banks.get b).openRow?.isSome }

theorem Bank.markClosePending_eq (k : Bank) :
    k.markClosePending = { k with closePending := k.closePending || k.openRow?.isSome } := by
  unfold Bank.markClosePending
  split
  next h => simp [h]
  next h => simp [Bool.eq_false_iff.2 h]

theorem State.flushHost_eq (s : State) : s.flushHost = { s with
    host := { s.host with slots := s.host.slots.map Slot.flush }
    hostQueue := []
    regions := s.flushHost.regions
    banks := s.flushHost.banks } := by
  unfold State.flushHost
  dsimp only
  rw [State.releases_eq]

theorem State.softResetRunning_flushed : s.FlushedToHeld s.softResetRunning := by
  obtain ⟨hframe, hports, hcounts, hpins⟩ := State.flushPorts_flushed (s := s) (l := allPorts) (by decide)
  unfold State.softResetRunning
  dsimp only
  generalize allPorts.foldl State.flushPort s = u at hframe hports hcounts hpins ⊢
  have hhost : u.hostQueue = s.hostQueue := by rw [hframe]
  have hregions : s.CountsLowered u.flushHost s.outstanding := by
    rw [s.outstanding_eq, ← hhost]
    exact hcounts.trans (u.releaseAll_counts u.hostQueue)
  have hbanks : s.PinsLowered u.flushHost s.outstanding := by
    rw [s.outstanding_eq, ← hhost]
    exact hpins.trans (u.releaseAll_pins u.hostQueue)
  refine ⟨?_, fun p => ?_, fun k => ?_, hregions, fun b => ?_⟩
  · rw [u.flushHost_eq, hframe]
  · change u.flushHost.ports.get p = _
    rw [State.flushHost_ports, hports, if_pos (State.mem_allPorts p)]
  · change u.flushHost.host.slots.get k = _
    rw [u.flushHost_eq, hframe]
    exact get_map ..
  · change (u.flushHost.banks.map Bank.markClosePending).get b = _
    rw [get_map, hbanks b, Bank.markClosePending_eq]
    rfl

end Sys2Proof.Machine

open Sys2Proof Sys2Proof.Machine

/-- Settles O32: by the scheduler's state, and in RUN by the drain condition. -/
theorem holdBeginsDrain : Obligations.HoldBeginsDrain := by
  intro s hr answer
  refine ⟨fun hs hd => ?_, fun hs hd => ?_, fun ret hs => ?_, fun hs => ?_⟩ <;> rw [exec_hold hr, State.hold]
  · rw [hs]
    dsimp only
    rw [State.settleDrain_of_not (s := s.setSched .drainHold) (.inr hd)]
    rfl
  · rw [hs]
    dsimp only
    have hpost : ((s.setSched .drainHold).post .holdDone .none none 0).events = (s.post .holdDone .none none 0).events :=
      State.post_events_congr (s.setSched_events .drainHold) _ _ _ _
    rw [State.settleDrain_of_complete (s := s.setSched .drainHold) rfl hd, hpost]
    rfl
  · rw [hs]; rfl
  · obtain hs | hs | hs | hs := hs <;> rw [hs] <;> rfl

/-- Settles O33: the checks one after another. -/
theorem switchValidationInOrder : Obligations.SwitchValidationInOrder := by
  intro s page relation1 relation2 relation3 named
  refine ⟨State.validationDetail_of_relation1, State.validationDetail_of_relation2,
    State.validationDetail_of_relation3, fun p h1 h2 h3 hen hn hlow => ?_, fun h1 h2 h3 hall => ?_⟩
  · rw [State.validationDetail_of_relations h1 h2 h3, State.missingPort_eq_some hen hn hlow]
    rfl
  · rw [State.validationDetail_of_relations h1 h2 h3, State.missingPort_eq_none hall]
    rfl

/-- Settles O34: by the scheduler's state and the checks of the edit page. -/
theorem switchBeginsDrainOrFlips : Obligations.SwitchBeginsDrainOrFlips := by
  intro s next hr u answer edit d
  have hu : u = { s with ports := u.ports, decided := u.decided } := s.inWindow_eq next
  have hd : u.validationDetail u.editPage = d := by
    have hedit : u.editPage = edit := by rw [hu]; rfl
    rw [hedit]
    exact State.validationDetail_congr (fun p => (s.inWindow_port_keeps next p).1) edit
  have hexec : exec (.switch next) s = .next u.switch := exec_switch hr next
  have hsched : u.mode.sched = s.mode.sched := by rw [hu]
  clear_value u d
  rw [hexec]
  refine ⟨fun hs h0 => ?_, fun hs h0 => ?_, fun hs h0 => ?_, fun hs h0 => ?_, fun hs => ?_, fun hs => ?_⟩
  · rw [← hd] at h0 ⊢
    have hfail : u.switch =
        { u with host := { u.host with result := .pageInvalid, detail := u.validationDetail u.editPage } } := by
      obtain hs | hs | hs := hs
      · rw [State.switch_of_run (hsched.trans hs), State.beginSwitch_of_invalid h0]
      · rw [State.switch_of_held (hsched.trans hs), State.beginSwitch_of_invalid h0]
      · rw [State.switch_of_stopped (hsched.trans hs), State.switchStopped_of_invalid h0]
    rw [hfail, show u.host = s.host by rw [hu]]
  · rw [State.switch_of_run (hsched.trans hs), State.beginSwitch_of_valid (hd.trans h0), hu]
    rfl
  · rw [State.switch_of_held (hsched.trans hs), State.beginSwitch_of_valid (hd.trans h0), hu]
    rfl
  · have hpost : (u.post .switchDone .none none (u.mode.runSelect + 1).val).events =
        (s.post .switchDone .none none (s.mode.runSelect + 1).val).events := by
      rw [show u.mode = s.mode by rw [hu]]
      exact State.post_events_congr (show u.events = s.events by rw [hu]) _ _ _ _
    rw [State.switch_of_stopped (hsched.trans hs), State.switchStopped_of_valid (hd.trans h0), hpost, hu]
    rfl
  · rw [State.switch_of_init (hsched.trans hs), hu]
    rfl
  · have hbusy : u.switch = u.setResult .busy := by
      obtain hs | ⟨ret, hs⟩ := hs <;> rw [State.switch, hsched, hs]
    rw [hbusy, hu]
    rfl

/-- Settles O35: the values of 8.7, the queues being empty already. -/
theorem softResetInStoppedOrInit : Obligations.SoftResetInStoppedOrInit := by
  intro s next hr hs hidle u
  have hu : u = { s with ports := u.ports, decided := u.decided } := s.inWindow_eq next
  have hexec : exec (.softReset next) s = .next u.softReset := exec_softReset hr next
  have hqueue : ∀ p, (u.ports.get p).queue = [] := fun p => by
    rw [(s.inWindow_port_keeps next p).2.2.2.2]
    exact State.outstanding_eq_nil_iff.1 (hidle hs) (.port p)
  have hports : (u.ports.map fun k => { k with queue := [] }) = u.ports := vector_ext_get fun p => by
    rw [get_map, ← hqueue p]
  have hhost : s.hostQueue = [] := State.outstanding_eq_nil_iff.1 (hidle hs) .host
  clear_value u
  have hreset : u.softReset = u.softResetIdle.setResult .ok := by
    have hsched : u.mode.sched = s.mode.sched := by rw [hu]
    rw [State.softReset, hsched]
    obtain hs | hs := hs <;> rw [hs]
  have hcredit : u.softResetCredit = _ := CreditBucket.restart_eq ..
  refine ⟨_, hexec.trans (congrArg _ hreset), ?_, fun b k => ?_, fun i => ?_, fun i => ?_, fun b => ?_, fun b => ?_, rfl, rfl⟩
  · unfold State.softResetIdle
    dsimp only
    rw [hports, hcredit, hu, hhost]
    cases hd : u.decided <;> rfl
  · exact (congrFun (congrArg Vector.get (get_replicate ..)) k).trans (get_replicate ..)
  · exact get_replicate ..
  · have hregions : u.regions = s.regions := by rw [hu]
    exact (get_map ..).trans (by rw [hregions])
  · have hb : (Vector.replicate 4 Bank.powerOn).get b = .powerOn := get_replicate ..
    exact ⟨congrArg Bank.state hb, congrArg Bank.rowMin hb, congrArg Bank.writeRecovery hb, congrArg Bank.pins hb,
      congrArg Bank.closePending hb⟩
  · have ha := State.reset_account b
    exact ⟨congrArg Account.debt ha, congrArg Account.pointer ha, congrArg Account.oddPass ha⟩

/-- Settles O36: every queue is flushed, and the values of 8.7 follow. -/
theorem softResetFlushesToHeld : Obligations.SoftResetFlushesToHeld := by
  intro s next hr hs hi u
  have hu : u = { s with ports := u.ports, decided := u.decided } := s.inWindow_eq next
  have hqueue : ∀ p, (u.ports.get p).queue = (s.ports.get p).queue := fun p => (s.inWindow_port_keeps next p).2.2.2.2
  have hout : u.outstanding = s.outstanding := by
    rw [u.outstanding_eq, s.outstanding_eq]
    simp only [hqueue]
    rw [hu]
  have hexec : exec (.softReset next) s = .next u.softReset := exec_softReset hr next
  clear_value u
  have hreset : u.softReset = u.softResetRunning.setResult .ok := by
    have hsched : u.mode.sched = s.mode.sched := by rw [hu]
    unfold State.softReset
    split
    next h => exact absurd (hsched.symm.trans h) hs
    next h => exact absurd (hsched.symm.trans h) hi
    · rfl
  obtain ⟨hframe, hports, hslots, hcounts, hbanks⟩ := u.softResetRunning_flushed
  generalize u.softResetRunning = v at hframe hports hslots hcounts hbanks hreset
  refine ⟨_, hexec.trans (congrArg _ hreset), ?_, fun p => ?_, fun k => ?_, fun i => ?_, fun b => ?_⟩
  · rw [hframe, hu]
    rfl
  · exact (hports p).trans (by rw [hqueue]; rfl)
  · rw [← Slot.flush_eq, ← show u.host = s.host by rw [hu]]
    exact hslots k
  · rw [← hout, ← show u.regions = s.regions by rw [hu]]
    exact hcounts i
  · rw [State.activeOn, ← hout, ← show u.banks = s.banks by rw [hu]]
    exact hbanks b

/-- Settles O37: by the drain condition. -/
theorem drainCompleteHolds : Obligations.DrainCompleteHolds := by
  intro s hr
  refine ⟨fun hs hd => ?_, fun h => ?_⟩ <;> rw [exec_drainComplete hr]
  · rw [State.settleDrain_of_complete hs hd]
  · rw [State.settleDrain_of_not h]

end

section
/-! PROOFS. Retirement and expiry (7.2, 7.5): which groups a check passes, and what an expiry leaves of every account and
of the rank. -/

-- One proof after another: a thread for each would reserve more memory than the check allows.
set_option Elab.async false

namespace Sys2Proof.Machine

variable {s t : State}

/-! ### Retirement -/

theorem Dram.read_forgetGroup (m : Dram) (b : BankId) (g a : Nat) :
    (m.forgetGroup b g).read a = if inGroup b g a then none else m.read a := by
  unfold inGroup
  split
  next h =>
    simp only [Bool.and_eq_true, decide_eq_true_eq] at h
    exact Dram.read_forget_of_inside m h
  next h =>
    simp only [Bool.and_eq_true, decide_eq_true_eq, not_and_or, not_le, not_lt] at h
    exact Dram.read_forget_of_outside m h

/-- The word is of one of the `n` groups from the pointer on, and the group is of class OFF (R68). -/
def State.LosesIn (s : State) (b : BankId) (n a : Nat) : Prop :=
  ∃ k, k < n ∧ classOf s.regions b ((s.account b).pointer + k) = .off ∧ inGroup b ((s.account b).pointer + k) a = true

theorem State.not_losesIn_zero (b : BankId) (a : Nat) : ¬s.LosesIn b 0 a := fun ⟨_, hk, _⟩ => absurd hk (by omega)

theorem State.losesIn_succ {b : BankId} {n a : Nat} (hr : t.regions = s.regions)
    (hp : (t.account b).pointer = (s.account b).pointer + 1) : s.LosesIn b (n + 1) a ↔
      (classOf s.regions b (s.account b).pointer = .off ∧ inGroup b (s.account b).pointer a = true) ∨ t.LosesIn b n a := by
  unfold State.LosesIn
  rw [hr, hp]
  constructor
  · rintro ⟨k, hk, h⟩
    cases k with
    | zero => exact .inl h
    | succ k => exact .inr ⟨k, by omega, by rwa [Nat.add_assoc, Nat.add_comm 1]⟩
  · rintro (h | ⟨k, hk, h⟩)
    · exact ⟨0, by omega, h⟩
    · exact ⟨k + 1, by omega, by rwa [Nat.add_assoc, Nat.add_comm 1] at h⟩

/-- A check of bank `b` has passed the `n` groups from the pointer on (R119). -/
structure State.Retired (s t : State) (b : BankId) (n : Nat) : Prop where
  frame : t = { s with refresh := t.refresh, dram := t.dram }
  timer : t.refresh.elapsed = s.refresh.elapsed ∧ t.refresh.conditioning = s.refresh.conditioning
  others : ∀ c, c ≠ b → t.account c = s.account c
  debt : (t.account b).debt = (s.account b).debt - n
  pointer : (t.account b).pointer = (s.account b).pointer + n
  oddPass : (t.account b).oddPass = (s.account b).oddPass
  inBank : (s.account b).pointer ≤ 128 → (t.account b).pointer ≤ 128
  passed : ∀ k, k < n → needsRefresh (classOf s.regions b ((s.account b).pointer + k)) (s.account b).oddPass = false ∧
    0 < (s.account b).debt - k
  lost : ∀ a, s.LosesIn b n a → t.dram.read a = none
  kept : ∀ a, ¬s.LosesIn b n a → t.dram.read a = s.dram.read a

theorem State.mayRetire_iff {b : BankId} :
    s.mayRetire b = true ↔ 0 < (s.account b).debt ∧ s.pointerNeedsRefresh b = false := by
  simp [State.mayRetire, State.owed]

theorem classOf_of_uncovered {v : Vector Region 16} {b : BankId} {g : Nat} (h : ∀ i, (v.get i).covers b g = false) :
    classOf v b g = .retain := by
  have hnone : coveringRegion v b g = none := List.find?_eq_none.2 fun i _ => by simp [h i]
  unfold classOf
  rw [hnone]
  split <;> rfl

/-- The group of the spare rows needs a refresh in every pass, so a group that is passed lies below it (R116). A pointer
beyond the groups stands before no group of an entry, so nothing is passed there. -/
theorem State.pointer_lt_of_unretained {b : BankId} (hp : (s.account b).pointer ≤ 128 ∨ s.RegionsInRange)
    (hn : s.pointerNeedsRefresh b = false) : (s.account b).pointer < 128 := by
  by_contra hge
  have hretain : classOf s.regions b (s.account b).pointer = .retain := by
    by_cases h128 : (s.account b).pointer = 128
    · rw [h128]; rfl
    · refine classOf_of_uncovered fun i => ?_
      obtain ⟨-, hrange⟩ := (hp.resolve_left (by omega)) i
      by_contra hcov
      obtain ⟨-, hhigh⟩ := Region.covers_iff.1 (Bool.not_eq_false _ ▸ hcov)
      omega
  rw [State.pointerNeedsRefresh, hretain] at hn
  cases hn

theorem State.retireOne_dram (b : BankId) : (s.retireOne b).dram =
    if classOf s.regions b (s.account b).pointer = .off then s.dram.forgetGroup b (s.account b).pointer else s.dram := by
  unfold State.retireOne
  dsimp only
  split
  · rfl
  · rfl

theorem State.retireOne_elapsed (b : BankId) : (s.retireOne b).refresh.elapsed = s.refresh.elapsed := by
  unfold State.retireOne; dsimp only; split <;> rfl

/-- The rank after a check and then more of it loses the groups of both parts. -/
theorem State.retirement_passes {b : BankId} (hp : (s.account b).pointer ≤ 128 ∨ s.RegionsInRange) (fuel : Nat) :
    ∃ n, s.Retired (State.retireUpTo b fuel s) b n := by
  induction fuel generalizing s with
  | zero => exact ⟨0, rfl, ⟨rfl, rfl⟩, fun _ _ => rfl, by simp [State.retireUpTo], rfl, rfl, id, by simp,
    fun a ha => absurd ha (s.not_losesIn_zero b a), fun _ _ => rfl⟩
  | succ fuel ih =>
    unfold State.retireUpTo
    split
    next hm =>
      obtain ⟨hd, hn⟩ := State.mayRetire_iff.1 hm
      have hlt := State.pointer_lt_of_unretained hp hn
      have hacc : (s.retireOne b).account b = { s.account b with
          debt := (s.account b).debt - 1, pointer := (s.account b).pointer + 1 } := by
        rw [State.retireOne_account, if_pos rfl, Account.pay, Account.stepPointer, if_pos hlt]
      obtain ⟨n, h⟩ := ih (s := s.retireOne b) (.inl (by rw [hacc]; exact hlt))
      have hregions : (s.retireOne b).regions = s.regions := s.retireOne_regions b
      have hgroup : ∀ k, (s.account b).pointer + 1 + k = (s.account b).pointer + (k + 1) := fun k => by omega
      refine ⟨n + 1, ?_, ⟨?_, ?_⟩, fun c hc => ?_, ?_, ?_, ?_, fun _ => h.inBank (by rw [hacc]; exact hlt), fun k hk => ?_, fun a ha => ?_,
        fun a ha => ?_⟩
      · rw [h.frame, s.retireOne_eq b]
      · rw [h.timer.1, s.retireOne_elapsed b]
      · rw [h.timer.2, s.retireOne_conditioning b]
      · rw [h.others c hc, State.retireOne_account, if_neg (Ne.symm hc)]
      · rw [h.debt, hacc]
        push_cast
        ring
      · rw [h.pointer, hacc]
        exact hgroup n
      · rw [h.oddPass, hacc]
      · cases k with
        | zero => exact ⟨hn, by simpa using hd⟩
        | succ k =>
          have := h.passed k (by omega)
          rw [hacc, hregions] at this
          dsimp only at this
          rw [hgroup] at this
          exact ⟨this.1, by push_cast; omega⟩
      · obtain hone | hmore := (State.losesIn_succ hregions (by rw [hacc])).1 ha
        · by_cases hl : (s.retireOne b).LosesIn b n a
          · exact h.lost a hl
          · rw [h.kept a hl, State.retireOne_dram, if_pos hone.1, Dram.read_forgetGroup, if_pos hone.2]
        · exact h.lost a hmore
      · rw [State.losesIn_succ hregions (by rw [hacc]), not_or] at ha
        rw [h.kept a ha.2, State.retireOne_dram]
        split
        next hoff => rw [Dram.read_forgetGroup, if_neg fun hg => ha.1 ⟨hoff, hg⟩]
        · rfl
    · exact ⟨0, rfl, ⟨rfl, rfl⟩, fun _ _ => rfl, by simp, rfl, rfl, id, by simp,
    fun a ha => absurd ha (s.not_losesIn_zero b a), fun _ _ => rfl⟩

theorem State.retirementCheck_retired {b : BankId} (hp : (s.account b).pointer ≤ 128 ∨ s.RegionsInRange) :
    ∃ n, s.Retired (s.retirementCheck b) b n := State.retirement_passes hp _

end Sys2Proof.Machine

open Sys2Proof Sys2Proof.Machine

/-- Settles O42: the groups passed, and the check's end at debt 0 or at a group that needs a real refresh. -/
theorem retirementPassesUnretainedGroups : Obligations.RetirementPassesUnretainedGroups := by
  intro s b hp t unretained
  obtain ⟨n, h⟩ := State.retirementCheck_retired (s := s) (b := b) (.inl hp)
  have hend : (t.account b).debt ≤ 0 ∨ ¬unretained (t.account b).pointer := by
    by_cases hd : 0 < (t.account b).debt
    · right
      have hneed : t.pointerNeedsRefresh b = true := s.retirementCheck_settles b hd
      have hregions : t.regions = s.regions := s.retirementCheck_regions b
      rw [State.pointerNeedsRefresh, hregions, h.oddPass] at hneed
      simp [unretained, hneed]
    · exact .inl (by omega)
  have hlost : ∀ a, s.LosesIn b n a ↔ ∃ k, k < n ∧ classOf s.regions b ((s.account b).pointer + k) = .off ∧
      dramAddr b (16 * ((s.account b).pointer + k)) 0 ≤ a ∧
      a < dramAddr b (16 * ((s.account b).pointer + k)) 0 + 4096 := fun a => by
    simp [State.LosesIn, inGroup]
  refine ⟨h.frame, h.timer.1, h.timer.2, h.others, n, h.debt, h.pointer, h.oddPass, h.inBank hp, h.passed, hend, fun a => ?_⟩
  rw [← hlost]
  exact ⟨h.lost a, h.kept a⟩

end

section
/-! PROOFS. The retirement checks of several banks, and an expiry of the interval timer (7.2). -/

-- One proof after another: a thread for each would reserve more memory than the check allows.
set_option Elab.async false

namespace Sys2Proof.Machine

variable {s t u : State}

/-! ### The checks of several banks -/

theorem State.retirementCheck_account_congr {b : BankId} (ha : u.account b = s.account b) (hr : u.regions = s.regions) :
    (u.retirementCheck b).account b = (s.retirementCheck b).account b := by
  have key : ∀ n (s u : State), u.account b = s.account b → u.regions = s.regions →
      (State.retireUpTo b n u).account b = (State.retireUpTo b n s).account b := by
    intro n
    induction n with
    | zero => exact fun _ _ ha _ => ha
    | succ n ih =>
      intro s u ha hr
      have hm : u.mayRetire b = s.mayRetire b := by
        simp only [State.mayRetire, State.owed, State.pointerNeedsRefresh, ha, hr]
      unfold State.retireUpTo
      rw [hm]
      split
      · refine ih _ _ ?_ (by rw [State.retireOne_regions, State.retireOne_regions, hr])
        rw [State.retireOne_account, State.retireOne_account, if_pos rfl, if_pos rfl, ha]
      · exact ha
  unfold State.retirementCheck
  rw [ha]
  exact key _ s u ha hr

/-- Between `s` and `t` the bank's pointer has passed a group of class OFF with the word (R68). -/
def State.PassedOff (s t : State) (a : Nat) : Prop :=
  ∃ b g, inGroup b g a = true ∧ classOf s.regions b g = .off ∧ (s.account b).pointer ≤ g ∧ g < (t.account b).pointer

theorem State.Retired.losesIn_iff {b : BankId} {n : Nat} (h : s.Retired t b n) (a : Nat) :
    s.LosesIn b n a ↔ s.PassedOff t a := by
  constructor
  · rintro ⟨k, hk, hoff, ha⟩
    exact ⟨b, _, ha, hoff, Nat.le_add_right .., by rw [h.pointer]; omega⟩
  · rintro ⟨c, g, ha, hoff, hlow, hhigh⟩
    by_cases hc : c = b
    · subst hc
      rw [h.pointer] at hhigh
      refine ⟨g - (s.account c).pointer, by omega, ?_, ?_⟩ <;> rw [Nat.add_sub_cancel' hlow]
      · exact hoff
      · exact ha
    · rw [h.others c hc] at hhigh
      omega

/-- The banks with `P` have had their retirement checks, and nothing else has changed (R66, R112). -/
structure State.Checked (s t : State) (P : BankId → Prop) : Prop where
  frame : t = { s with refresh := t.refresh, dram := t.dram }
  timer : t.refresh.elapsed = s.refresh.elapsed ∧ t.refresh.conditioning = s.refresh.conditioning
  checked : ∀ b, P b → t.account b = (s.retirementCheck b).account b
  unchecked : ∀ b, ¬P b → t.account b = s.account b
  lost : ∀ a, s.PassedOff t a → t.dram.read a = none
  kept : ∀ a, ¬s.PassedOff t a → t.dram.read a = s.dram.read a

theorem State.not_passedOff_self (a : Nat) : ¬s.PassedOff s a := by
  rintro ⟨b, g, -, -, hlow, hhigh⟩
  omega

theorem State.passedOff_trans (hr : t.regions = s.regions)
    (h : ∀ b, t.account b = s.account b ∨ u.account b = t.account b) (hmono : ∀ b, (s.account b).pointer ≤ (t.account b).pointer)
    (a : Nat) : s.PassedOff u a ↔ s.PassedOff t a ∨ t.PassedOff u a := by
  constructor
  · rintro ⟨b, g, ha, hoff, hlow, hhigh⟩
    obtain hst | htu := h b
    · exact .inr ⟨b, g, ha, hr ▸ hoff, hst ▸ hlow, hhigh⟩
    · exact .inl ⟨b, g, ha, hoff, hlow, htu ▸ hhigh⟩
  · rintro (⟨b, g, ha, hoff, hlow, hhigh⟩ | ⟨b, g, ha, hoff, hlow, hhigh⟩)
    · obtain hst | htu := h b
      · rw [hst] at hhigh
        omega
      · exact ⟨b, g, ha, hoff, hlow, htu ▸ hhigh⟩
    · exact ⟨b, g, ha, hr ▸ hoff, (hmono b).trans hlow, hhigh⟩

theorem State.retirementChecks_checked (q : BankId → Bool) {l : List BankId} (hl : l.Nodup)
    (hp : ∀ b, (s.account b).pointer ≤ 128 ∨ s.RegionsInRange) :
    s.Checked (l.foldl (fun u c => if q c then u.retirementCheck c else u) s) fun b => b ∈ l ∧ q b = true := by
  induction l generalizing s with
  | nil =>
    exact ⟨rfl, ⟨rfl, rfl⟩, by simp, fun _ _ => rfl, fun a ha => absurd ha (s.not_passedOff_self a), fun _ _ => rfl⟩
  | cons c l ih =>
    obtain ⟨hc, hl⟩ := List.nodup_cons.1 hl
    rw [List.foldl_cons]
    split
    next hq =>
      obtain ⟨n, hn⟩ := State.retirementCheck_retired (hp c)
      have hregions := s.retirementCheck_regions c
      have hne : ∀ b, b ≠ c → (s.retirementCheck c).account b = s.account b := hn.others
      have h := ih (s := s.retirementCheck c) hl fun b => by
        by_cases hb : b = c
        · subst hb
          exact (hp b).imp hn.inBank fun hr => by rw [State.RegionsInRange, hregions]; exact hr
        · rw [hne b hb]
          exact (hp b).imp_right fun hr => by rw [State.RegionsInRange, hregions]; exact hr
      generalize l.foldl _ _ = t at h ⊢
      have hpassed := State.passedOff_trans (s := s) (t := s.retirementCheck c) (u := t) hregions (fun b => by
          by_cases hb : b = c
          · exact .inr (h.unchecked b fun hbl => hc (hb ▸ hbl.1))
          · exact .inl (hne b hb)) fun b => by
        by_cases hb : b = c
        · rw [hb, hn.pointer]; omega
        · rw [hne b hb]
      refine ⟨?_, ⟨h.timer.1.trans hn.timer.1, h.timer.2.trans hn.timer.2⟩, fun b hb => ?_, fun b hb => ?_, fun a ha => ?_,
        fun a ha => ?_⟩
      · rw [h.frame, hn.frame]
      · by_cases hbc : b = c
        · rw [h.unchecked b fun hbl => hc (hbc ▸ hbl.1), hbc]
        · rw [h.checked b ⟨(List.mem_cons.1 hb.1).resolve_left hbc, hb.2⟩]
          exact State.retirementCheck_account_congr (hne b hbc) hregions
      · have hbc : b ≠ c := fun hbc => hb ⟨by simp [hbc], hbc ▸ hq⟩
        rw [h.unchecked b fun hbl => hb ⟨List.mem_cons_of_mem _ hbl.1, hbl.2⟩, hne b hbc]
      · by_cases hlater : (s.retirementCheck c).PassedOff t a
        · exact h.lost a hlater
        · rw [h.kept a hlater]
          exact hn.lost a ((hn.losesIn_iff a).2 (((hpassed a).1 ha).resolve_right hlater))
      · rw [hpassed, not_or] at ha
        rw [h.kept a ha.2, hn.kept a fun hloses => ha.1 ((hn.losesIn_iff a).1 hloses)]
    next hq =>
      have h := ih hl hp
      refine ⟨h.frame, h.timer, fun b hb => ?_, fun b hb => ?_, h.lost, h.kept⟩
      · refine h.checked b ⟨(List.mem_cons.1 hb.1).resolve_left ?_, hb.2⟩
        rintro rfl
        exact hq hb.2
      · exact h.unchecked b fun hbl => hb ⟨List.mem_cons_of_mem _ hbl.1, hbl.2⟩

/-! ### The rises of an expiry -/

/-- The records ACTIVE on a bank of `l` whose debt rises to 8 are suspended (R123). -/
def State.preemptIn (s : State) (l : List BankId) (r : Record) : Record :=
  if r.isActive = true ∧ r.bank ∈ l ∧ (s.account r.bank).debt = 7 then { r with state := .suspended, preempted := true }
  else r

/-- The post of an expiry at a bank (R112, R114, R123). -/
def State.postExpiryAt (owing : State) (suspended : BankId → Nat) (u : State) (b : BankId) : State :=
  if (owing.account b).debt = 7 then u.post .preempt (.bank b) none (suspended b)
  else if (owing.account b).debt = 8 then u.post .refreshOverrun (.bank b) none (owing.account b).pointer
  else u

theorem State.postExpiryAt_events_congr {owing owing' : State} {f f' : BankId → Nat} {b : BankId}
    (ha : owing'.account b = owing.account b) (hf : f' b = f b) (he : t.events = s.events) :
    (State.postExpiryAt owing' f' t b).events = (State.postExpiryAt owing f s b).events := by
  unfold State.postExpiryAt
  rw [ha, hf]
  split
  · exact State.post_events_congr he ..
  · split
    · exact State.post_events_congr he ..
    · exact he

theorem State.postExpiries_events_congr {owing owing' : State} {f f' : BankId → Nat} {l : List BankId}
    (ha : ∀ b ∈ l, owing'.account b = owing.account b) (hf : ∀ b ∈ l, f' b = f b) (he : t.events = s.events) :
    (l.foldl (State.postExpiryAt owing' f') t).events = (l.foldl (State.postExpiryAt owing f) s).events := by
  induction l generalizing s t with
  | nil => exact he
  | cons b l ih =>
    exact ih (fun c hc => ha c (List.mem_cons_of_mem _ hc)) (fun c hc => hf c (List.mem_cons_of_mem _ hc))
      (State.postExpiryAt_events_congr (ha b List.mem_cons_self) (hf b List.mem_cons_self) he)

/-- What the rises at the banks of `l` change, before the checks (R112). -/
structure State.Raised (s t : State) (l : List BankId) : Prop where
  frame : t = { s with
    ports := s.ports.map fun k => { k with queue := k.queue.map (s.preemptIn l) }
    hostQueue := s.hostQueue.map (s.preemptIn l)
    banks := t.banks, refresh := t.refresh, events := t.events }
  timer : t.refresh.elapsed = s.refresh.elapsed ∧ t.refresh.conditioning = s.refresh.conditioning
  accounts : ∀ b, t.account b =
    if b ∈ l ∧ (s.account b).debt < 8 then { s.account b with debt := (s.account b).debt + 1 } else s.account b
  banks : ∀ b, t.banks.get b = { s.banks.get b with
    pins := if b ∈ l ∧ (s.account b).debt = 7 then 0 else (s.banks.get b).pins }
  events : t.events = (l.foldl (State.postExpiryAt s s.activeOn) s).events

/-- The account of the bank rises by one (R112). -/
def State.raiseDebt (s : State) (b : BankId) : State := s.modAccount b fun a => { a with debt := a.debt + 1 }

theorem State.expiryAt_of_seven {b : BankId} (h : (s.account b).debt = 7) :
    s.expiryAt b = ((s.raiseDebt b).suspendBank b).post .preempt (.bank b) none (s.activeOn b) := by
  unfold State.expiryAt
  dsimp only
  rw [if_pos (by omega), if_pos ((State.critical_raised b).2 h)]
  rfl

theorem State.expiryAt_of_lt {b : BankId} (h : (s.account b).debt < 7) : s.expiryAt b = s.raiseDebt b := by
  unfold State.expiryAt
  dsimp only
  rw [if_pos (by omega), if_neg fun hc => by have := (State.critical_raised b).1 hc; omega]
  rfl

theorem State.expiryAt_of_eight {b : BankId} (h : (s.account b).debt = 8) :
    s.expiryAt b = s.post .refreshOverrun (.bank b) none (s.account b).pointer := by
  unfold State.expiryAt
  rw [if_neg (by omega)]

theorem State.preemptIn_of_seven {b : BankId} (h : (s.account b).debt = 7) : s.preemptIn [b] = Record.suspend b := by
  funext r
  unfold State.preemptIn Record.suspend
  by_cases hr : r.isActive = true ∧ r.bank = b
  · rw [if_pos ⟨hr.1, by simp [hr.2], by rw [hr.2]; exact h⟩, if_pos (by simpa using hr)]
  · rw [if_neg fun hc => hr ⟨hc.1, by simpa using hc.2.1⟩, if_neg (by simpa using hr)]

theorem State.preemptIn_of_ne {b : BankId} (h : (s.account b).debt ≠ 7) : s.preemptIn [b] = id := by
  funext r
  unfold State.preemptIn
  refine if_neg fun hc => h ?_
  obtain ⟨-, hb, hd⟩ := hc
  rwa [List.mem_singleton.1 hb] at hd

theorem mapQueues_id (v : Vector Port 4) : (v.map fun k => { k with queue := k.queue.map id }) = v :=
  vector_ext_get fun p => by rw [get_map, List.map_id]

theorem State.expiryAt_raised {b : BankId} (hb : (s.account b).debt ≤ 8) : s.Raised (s.expiryAt b) [b] := by
  have hacc : ∀ c, (s.expiryAt b).account c =
      if c ∈ [b] ∧ (s.account c).debt < 8 then { s.account c with debt := (s.account c).debt + 1 } else s.account c := by
    intro c
    rw [State.expiryAt_account]
    by_cases hbc : b = c
    · subst hbc; simp
    · rw [if_neg fun h => hbc h.1, if_neg fun h => hbc (List.mem_singleton.1 h.1).symm]
  have hkeep : (s.account b).debt ≠ 7 → ∀ c, s.banks.get c = { s.banks.get c with
      pins := if c ∈ [b] ∧ (s.account c).debt = 7 then 0 else (s.banks.get c).pins } := fun h7 c => by
    rw [if_neg]
    rintro ⟨hc, hd⟩
    exact h7 (List.mem_singleton.1 hc ▸ hd)
  refine ⟨?_, ⟨?_, s.expiryAt_conditioning b⟩, hacc, ?_, ?_⟩
  all_goals obtain h7 | h7 | h8 : (s.account b).debt = 7 ∨ (s.account b).debt < 7 ∨ (s.account b).debt = 8 := by omega
  · rw [State.preemptIn_of_seven h7, State.expiryAt_of_seven h7, State.post_eq]
    rfl
  · rw [State.preemptIn_of_ne (by omega), mapQueues_id, List.map_id, State.expiryAt_of_lt h7]
    rfl
  · rw [State.preemptIn_of_ne (by omega), mapQueues_id, List.map_id, State.expiryAt_of_eight h8, State.post_eq]
  · rw [State.expiryAt_of_seven h7, State.post_refresh]; rfl
  · rw [State.expiryAt_of_lt h7]; rfl
  · rw [State.expiryAt_of_eight h8, State.post_refresh]
  · intro c
    rw [State.expiryAt_of_seven h7, State.post_banks, State.suspendBank_bank]
    by_cases hbc : b = c
    · subst hbc
      rw [if_pos rfl, if_pos ⟨by simp, h7⟩]
      rfl
    · rw [if_neg hbc, if_neg fun h => hbc (List.mem_singleton.1 h.1).symm]
      rfl
  · rw [State.expiryAt_of_lt h7]
    exact hkeep (by omega)
  · rw [State.expiryAt_of_eight h8, State.post_banks]
    exact hkeep (by omega)
  · rw [State.expiryAt_of_seven h7, List.foldl_cons, List.foldl_nil, State.postExpiryAt, if_pos h7]
    refine State.post_events_congr (s := s) ?_ _ _ _ _
    rfl
  · rw [State.expiryAt_of_lt h7, List.foldl_cons, List.foldl_nil, State.postExpiryAt, if_neg (by omega), if_neg (by omega)]
    rfl
  · rw [State.expiryAt_of_eight h8, List.foldl_cons, List.foldl_nil, State.postExpiryAt, if_neg (by omega), if_pos h8]

theorem State.expiryAt_activeOn {b c : BankId} (h : b ≠ c) : (s.expiryAt b).activeOn c = s.activeOn c := by
  unfold State.activeOn
  rw [State.expiryAt_outstanding]
  split
  · rw [List.countP_map]
    exact List.countP_congr fun r _ => by
      rw [Function.comp_apply, Record.suspend_active_on h]
  · rfl

theorem State.preemptIn_preemptIn {c : BankId} {l : List BankId} (hc : c ∉ l)
    (ha : ∀ b, b ≠ c → t.account b = s.account b) (r : Record) :
    t.preemptIn l (s.preemptIn [c] r) = s.preemptIn (c :: l) r := by
  by_cases h7 : r.isActive = true ∧ r.bank = c ∧ (s.account c).debt = 7
  · obtain ⟨hr, rfl, h7⟩ := h7
    have hone : s.preemptIn [r.bank] r = { r with state := .suspended, preempted := true } := if_pos ⟨hr, by simp, h7⟩
    have hboth : s.preemptIn (r.bank :: l) r = { r with state := .suspended, preempted := true } :=
      if_pos ⟨hr, by simp, h7⟩
    rw [hone, hboth]
    exact if_neg fun h => by simp [Record.isActive] at h
  · have hone : s.preemptIn [c] r = r := if_neg fun h => h7 ⟨h.1, List.mem_singleton.1 h.2.1, by
      rw [← List.mem_singleton.1 h.2.1]; exact h.2.2⟩
    rw [hone]
    unfold State.preemptIn
    by_cases hrc : r.bank = c
    · rw [if_neg fun h => hc (hrc ▸ h.2.1), if_neg fun h => h7 ⟨h.1, hrc, hrc ▸ h.2.2⟩]
    · simp only [ha _ hrc, List.mem_cons, hrc, false_or]

/-- The rises at several banks, each on an account that those before it have left alone. -/
theorem State.expiries_raised {l : List BankId} (hl : l.Nodup) (hb : ∀ b ∈ l, (s.account b).debt ≤ 8) :
    s.Raised (l.foldl State.expiryAt s) l := by
  induction l generalizing s with
  | nil =>
    have hid : s.preemptIn [] = id := by
      funext r
      exact if_neg (by simp)
    exact ⟨by rw [hid, mapQueues_id, List.map_id]; rfl, ⟨rfl, rfl⟩, by simp, by simp, rfl⟩
  | cons c l ih =>
    obtain ⟨hc, hl⟩ := List.nodup_cons.1 hl
    have hone := s.expiryAt_raised (hb c List.mem_cons_self)
    have hacc : ∀ b, b ≠ c → (s.expiryAt c).account b = s.account b := fun b hbc => by
      rw [hone.accounts, if_neg fun h => hbc (List.mem_singleton.1 h.1)]
    have hne : ∀ b ∈ l, b ≠ c := fun b hbl hbc => hc (hbc ▸ hbl)
    have h := ih (s := s.expiryAt c) hl fun b hbl => by
      rw [hacc b (hne b hbl)]
      exact hb b (List.mem_cons_of_mem _ hbl)
    rw [List.foldl_cons]
    generalize l.foldl State.expiryAt (s.expiryAt c) = t at h ⊢
    have hrecords : ∀ r, (s.expiryAt c).preemptIn l (s.preemptIn [c] r) = s.preemptIn (c :: l) r :=
      State.preemptIn_preemptIn hc hacc
    refine ⟨?_, ⟨h.timer.1.trans hone.timer.1, h.timer.2.trans hone.timer.2⟩, fun b => ?_, fun b => ?_, ?_⟩
    · have hports : ((s.expiryAt c).ports.map fun k => { k with queue := k.queue.map ((s.expiryAt c).preemptIn l) }) =
          s.ports.map fun k => { k with queue := k.queue.map (s.preemptIn (c :: l)) } := vector_ext_get fun p => by
        have hport : (s.expiryAt c).ports.get p =
            { s.ports.get p with queue := (s.ports.get p).queue.map (s.preemptIn [c]) } := by
          rw [hone.frame]
          exact get_map ..
        rw [get_map, get_map, hport]
        simp only [List.map_map, Function.comp_def, hrecords]
      have hhost : (s.expiryAt c).hostQueue.map ((s.expiryAt c).preemptIn l) = s.hostQueue.map (s.preemptIn (c :: l)) := by
        have hqueue : (s.expiryAt c).hostQueue = s.hostQueue.map (s.preemptIn [c]) := by rw [hone.frame]
        rw [hqueue]
        simp only [List.map_map, Function.comp_def, hrecords]
      have hframe := h.frame
      rw [hports, hhost] at hframe
      have hold := hone.frame
      generalize s.expiryAt c = v at hframe hold
      rw [hframe, hold]
    · rw [h.accounts]
      by_cases hbc : b = c
      · subst hbc
        rw [if_neg (fun h => hc h.1 : ¬(b ∈ l ∧ _)), hone.accounts]
        simp
      · simp [hacc b hbc, hbc]
    · rw [h.banks, hone.banks]
      by_cases hbc : b = c
      · subst hbc
        simp [hc]
      · simp [hacc b hbc, hbc]
    · rw [h.events]
      exact State.postExpiries_events_congr (fun b hbl => hacc b (hne b hbl))
        (fun b hbl => State.expiryAt_activeOn (hne b hbl).symm) hone.events

/-! ### An expiry on sound accounts -/

/-- An expiry, the queues of whose records are those of `r` (R112, R119). -/
structure State.Expired (s t : State) : Prop where
  frame : t = { s with
    ports := s.ports.map fun k => { k with queue := k.queue.map (s.preemptIn allBanks) }
    hostQueue := s.hostQueue.map (s.preemptIn allBanks)
    banks := t.banks, refresh := t.refresh, events := t.events, dram := t.dram }
  elapsed : t.refresh.elapsed = 0
  conditioning : t.refresh.conditioning = s.refresh.conditioning
  accounts : s.AccountsRaised t
  rank : s.PassedRowsLost t
  banks : ∀ b, t.banks.get b = { s.banks.get b with
    pins := if (s.account b).debt = 7 then 0 else (s.banks.get b).pins }
  events : t.events = (s.postExpiry s s.activeOn).events

/-- After its rise a bank passes one group where its debt has risen to 1 before an unretained group, and none otherwise
(R119, R121). -/
theorem State.Raised.passes (hu : s.Raised u allBanks) (hneed : s.PointersNeedRefresh)
    {b : BankId} {n : Nat} (h : u.Retired (u.retirementCheck b) b n) :
    (s.PassesAtExpiry b → n = 1) ∧ (¬s.PassesAtExpiry b → n = 0) := by
  have hacc := hu.accounts b
  simp only [mem_allBanks, true_and] at hacc
  have hregions : u.regions = s.regions := by rw [hu.frame]
  have hptr : (u.account b).pointer = (s.account b).pointer := by rw [hacc]; split <;> rfl
  have hodd : (u.account b).oddPass = (s.account b).oddPass := by rw [hacc]; split <;> rfl
  have hsame : needsRefresh (classOf u.regions b (u.account b).pointer) (u.account b).oddPass = s.pointerNeedsRefresh b := by
    rw [hregions, hptr, hodd]; rfl
  have hfirst : 0 < n → s.pointerNeedsRefresh b = false ∧ 0 < (u.account b).debt := fun hn => by
    have := h.passed 0 hn
    rw [Nat.add_zero, hsame] at this
    exact ⟨this.1, by simpa using this.2⟩
  have hdebt : (u.account b).debt = if (s.account b).debt < 8 then (s.account b).debt + 1 else (s.account b).debt := by
    rw [hacc]; split <;> rfl
  constructor
  · rintro ⟨hd, hun⟩
    rw [hd, if_pos (by omega)] at hdebt
    have hle : n ≤ 1 := by
      by_contra hn
      have := (h.passed 1 (by omega)).2
      omega
    have hne : n ≠ 0 := by
      rintro rfl
      have hsettled := u.retirementCheck_settles b (by rw [h.debt, hdebt]; decide)
      rw [State.pointerNeedsRefresh, State.retirementCheck_regions, h.pointer, h.oddPass, Nat.add_zero, hsame, hun] at hsettled
      cases hsettled
    omega
  · intro hnot
    by_contra hn
    obtain ⟨hun, hpos⟩ := hfirst (by omega)
    have hzero : ¬0 < (s.account b).debt := fun hd => by simp [hneed b hd] at hun
    refine hnot ⟨?_, hun⟩
    split at hdebt <;> omega

theorem Account.ext_of {a c : Account} (hd : a.debt = c.debt) (hp : a.pointer = c.pointer) (ho : a.oddPass = c.oddPass) :
    a = c := by
  cases a; cases c; simp_all

theorem State.takeExpiry_expired (hrange : s.AccountsInRange) (hneed : s.PointersNeedRefresh) : s.Expired s.takeExpiry := by
  have hu := State.expiries_raised (s := s) (l := allBanks) (by decide) fun b _ => (hrange b).2.1
  unfold State.takeExpiry
  dsimp only
  generalize allBanks.foldl State.expiryAt s = u at hu ⊢
  have hacc : ∀ b, u.account b = _ := hu.accounts
  have hptr : ∀ b, (u.account b).pointer = (s.account b).pointer := fun b => by rw [hacc]; split <;> rfl
  have hregions : u.regions = s.regions := by rw [hu.frame]
  have hv := State.retirementChecks_checked (s := u) (fun _ => true) (l := allBanks) (by decide) fun b =>
    .inl (by rw [hptr]; exact (hrange b).2.2)
  simp only [if_true, and_true] at hv
  generalize allBanks.foldl (fun u c => u.retirementCheck c) u = v at hv ⊢
  have hchecked : ∀ b, (s.PassesAtExpiry b → v.account b = { s.account b with pointer := (s.account b).pointer + 1 }) ∧
      (¬s.PassesAtExpiry b → v.account b = u.account b) := fun b => by
    obtain ⟨n, hn⟩ := u.retirementCheck_retired (b := b) (.inl (by rw [hptr]; exact (hrange b).2.2))
    obtain ⟨hpass, hstay⟩ := hu.passes hneed hn
    rw [hv.checked b (mem_allBanks b)]
    constructor
    · intro hp
      obtain rfl := hpass hp
      have hd := hp.1
      refine Account.ext_of ?_ ?_ ?_
      · rw [hn.debt, hacc, if_pos ⟨mem_allBanks b, by omega⟩]
        exact Int.add_sub_cancel ..
      · rw [hn.pointer, hptr]
      · rw [hn.oddPass, hacc]; split <;> rfl
    · intro hp
      obtain rfl := hstay hp
      refine Account.ext_of (by rw [hn.debt]; simp) hn.pointer hn.oddPass
  have hoff : ∀ a, u.PassedOff v a ↔ ∃ b, s.PassesAtExpiry b ∧ classOf s.regions b (s.account b).pointer = .off ∧
      inGroup b (s.account b).pointer a = true := fun a => by
    constructor
    · rintro ⟨b, g, ha, hoff, hlow, hhigh⟩
      rw [hptr] at hlow
      by_cases hp : s.PassesAtExpiry b
      · rw [(hchecked b).1 hp] at hhigh
        obtain rfl : g = (s.account b).pointer := by dsimp only at hhigh; omega
        exact ⟨b, hp, hregions ▸ hoff, ha⟩
      · rw [(hchecked b).2 hp, hptr] at hhigh
        omega
    · rintro ⟨b, hp, hoff, ha⟩
      refine ⟨b, _, ha, hregions ▸ hoff, (hptr b).le, ?_⟩
      rw [(hchecked b).1 hp]
      exact Nat.lt_succ_self _
  have hread : u.dram = s.dram := by rw [hu.frame]
  refine ⟨?_, rfl, hv.timer.2.trans hu.timer.2, fun b => ⟨fun h8 => ?_, fun h8 hp => ?_, (hchecked b).1⟩,
    fun a => ⟨fun hl => hv.lost a ((hoff a).2 hl), fun hl => (hv.kept a fun h => hl ((hoff a).1 h)).trans (by rw [hread])⟩,
    fun b => ?_, ?_⟩
  · rw [hv.frame, hu.frame]
  · have hp : ¬s.PassesAtExpiry b := fun hp => by rw [hp.1] at h8; cases h8
    change v.account b = _
    rw [(hchecked b).2 hp, hacc, if_neg fun h => by omega]
  · have hlt := (hrange b).2.1
    change v.account b = _
    rw [(hchecked b).2 hp, hacc, if_pos ⟨mem_allBanks b, by omega⟩]
  · change v.banks.get b = _
    rw [hv.frame, hu.banks]
    simp [mem_allBanks]
  · change v.events = _
    rw [hv.frame]
    exact hu.events

end Sys2Proof.Machine
end

section
/-! PROOFS. The flip of a pending switch, with the expiry it may cause (7.2, 8.6). -/

-- One proof after another: a thread for each would reserve more memory than the check allows.
set_option Elab.async false

namespace Sys2Proof.Machine

variable {s t u : State}

/-! ### The flip -/

theorem State.preemptIn_of_queued {l : List BankId} {r : Record} (h : r.state = .queued) : s.preemptIn l r = r :=
  if_neg fun hc => by simp [Record.isActive, h] at hc

theorem State.map_queued {f : Record → Record} (hf : ∀ r, r.state = .queued → f r = r)
    (hq : ∀ r ∈ s.outstanding, r.state = .queued) :
    (s.ports.map fun k => { k with queue := k.queue.map f }) = s.ports ∧ s.hostQueue.map f = s.hostQueue := by
  have hid : ∀ who, (s.queueOf who).map f = s.queueOf who := fun who =>
    (List.map_congr_left fun r hr => hf r (hq r (State.mem_outstanding.2 ⟨who, hr⟩))).trans (List.map_id _)
  refine ⟨vector_ext_get fun p => ?_, hid .host⟩
  rw [get_map]
  exact congrArg (fun q => { s.ports.get p with queue := q }) (hid (.port p))

theorem State.activeOn_of_queued (hq : ∀ r ∈ s.outstanding, r.state = .queued) (b : BankId) : s.activeOn b = 0 :=
  List.countP_eq_zero.2 fun r hr => by simp [Record.isActive, hq r hr]

/-- The posts of an expiry, seen from any state with its events. -/
theorem State.postExpiry_events_congr {owing owing' : State} {f f' : BankId → Nat}
    (ha : ∀ b, owing'.account b = owing.account b) (hf : ∀ b, f' b = f b) (he : t.events = s.events) :
    (t.postExpiry owing' f').events = (s.postExpiry owing f).events :=
  State.postExpiries_events_congr (fun b _ => ha b) (fun b _ => hf b) he

/-- Mode control after a flip that leads to the return state (R147). -/
def ModeControl.flipped (m : ModeControl) (ret : ReturnState) : ModeControl :=
  { m with runSelect := m.runSelect + 1, sched := match ret with | .run => .run | .held => .held }

/-- The credit bucket after a flip (R96). -/
def State.flippedCredit (s : State) : CreditBucket :=
  { count := min s.credit.count s.editPage.creditCapacity
    refillTimer := if s.decided then 1 else 0
    refillDue := if s.decided then Decidable.decide (s.editPage.refillPeriod ≤ 1) else s.credit.refillDue }

theorem State.afterFlip_eq (u : State) (ret : ReturnState) : (u.setSched ret.sched).postSwitchDone = { u with
    mode := { u.mode with sched := match ret with | .run => .run | .held => .held }
    events := (u.post .switchDone .none none u.mode.runSelect.val).events } := by
  have hpost : ((u.setSched ret.sched).post .switchDone .none none u.mode.runSelect.val).events =
      (u.post .switchDone .none none u.mode.runSelect.val).events :=
    State.post_events_congr (u.setSched_events _) _ _ _ _
  rw [State.postSwitchDone, State.post_eq]
  change { u.setSched ret.sched with
    events := ((u.setSched ret.sched).post .switchDone .none none u.mode.runSelect.val).events } = _
  rw [hpost]
  cases ret <;> rfl

theorem State.takeFlip_of_lt {ret : ReturnState} (h : s.refresh.elapsed < s.editPage.refreshInterval) :
    s.takeFlip ret = { s with
      mode := s.mode.flipped ret
      credit := s.flippedCredit
      arbiter := { s.arbiter with wheelPosition := 0 }
      events := (s.post .switchDone .none none (s.mode.runSelect + 1).val).events } := by
  have hno : ¬s.flipPages.runPage.refreshInterval ≤ s.flipPages.refresh.elapsed := by
    rw [State.flipPages_runPage, State.flipPages_eq]
    exact not_le.2 h
  unfold State.takeFlip
  dsimp only
  rw [if_neg hno, State.afterFlip_eq, State.flipPages_eq]
  have hpost := State.post_events_congr (s := s) (t := s.flipPages) (by rw [State.flipPages_eq]) .switchDone .none none
    (s.mode.runSelect + 1).val
  rw [State.flipPages_eq] at hpost
  dsimp only
  rw [hpost]
  rfl

/-- A flip with an expiry, on a drained queue: no record is there to suspend. -/
theorem State.takeFlip_of_ge {ret : ReturnState} (h : s.editPage.refreshInterval ≤ s.refresh.elapsed)
    (hrange : s.AccountsInRange) (hneed : s.PointersNeedRefresh) (hq : ∀ r ∈ s.outstanding, r.state = .queued) :
    let t := s.takeFlip ret
    t = { s with
      mode := s.mode.flipped ret
      credit := s.flippedCredit
      arbiter := { s.arbiter with wheelPosition := 0 }
      banks := t.banks, refresh := t.refresh, events := t.events, dram := t.dram } ∧
    t.refresh.elapsed = 0 ∧ t.refresh.conditioning = s.refresh.conditioning ∧ s.AccountsRaised t ∧ s.PassedRowsLost t ∧
    (∀ b, t.banks.get b = { s.banks.get b with
      pins := if (s.account b).debt = 7 then 0 else (s.banks.get b).pins }) ∧
    t.events = ((s.postExpiry s fun _ => 0).post .switchDone .none none (s.mode.runSelect + 1).val).events := by
  have hyes : s.flipPages.runPage.refreshInterval ≤ s.flipPages.refresh.elapsed := by
    rw [State.flipPages_runPage, State.flipPages_eq]
    exact h
  have hflip := s.flipPages_eq
  unfold State.takeFlip
  dsimp only
  rw [if_pos hyes, State.afterFlip_eq]
  generalize s.flipPages = f at hflip
  have hf : f.AccountsInRange ∧ f.PointersNeedRefresh := by rw [hflip]; exact ⟨hrange, hneed⟩
  have hout : f.outstanding = s.outstanding := by rw [hflip]; rfl
  have hx := State.takeExpiry_expired hf.1 hf.2
  obtain ⟨hports, hhost⟩ := f.map_queued (f := f.preemptIn allBanks) (fun r hr => State.preemptIn_of_queued hr)
    (hout ▸ hq)
  generalize f.takeExpiry = v at hx ⊢
  have hevents : v.events = (s.postExpiry s fun _ => 0).events := by
    rw [hx.events]
    exact State.postExpiry_events_congr (fun b => by rw [hflip]; rfl)
      (fun b => State.activeOn_of_queued (hout ▸ hq) b) (by rw [hflip])
  have hframe := hx.frame
  rw [hports, hhost] at hframe
  have hmode : v.mode = { s.mode with runSelect := s.mode.runSelect + 1 } := by rw [hframe, hflip]
  refine ⟨?_, hx.elapsed, ?_, ?_, ?_, ?_, ?_⟩
  · rw [hframe, hflip]
    rfl
  · rw [← show f.refresh.conditioning = s.refresh.conditioning by rw [hflip]]
    exact hx.conditioning
  · have := hx.accounts
    rw [hflip] at this
    exact this
  · have := hx.rank
    rw [hflip] at this
    exact this
  · have := hx.banks
    rw [hflip] at this
    exact this
  · rw [hmode]
    exact State.post_events_congr hevents _ _ _ _

end Sys2Proof.Machine

open Sys2Proof Sys2Proof.Machine

/-- Settles O38: a wrap that is handed is tested, and a drained switch flips. -/
theorem flipChangesPages : Obligations.FlipChangesPages := by
  intro s hr
  refine ⟨?_, fun hw h => ?_, fun hw => ?_⟩
  · intro ret hw hs hd edit mode credit arbiter
    have hflip : exec .flip s = .next ({ s with arbiter := { s.arbiter with wrapHanded := false } }.takeFlip ret) := by
      rw [exec_flip hr, State.flip, State.testWrap_flips _ hw hs ((State.drained_iff _).2 hd)]
    rw [hflip]
    refine ⟨fun hlt => ?_, fun hge hrange hneed => ?_⟩
    · rw [State.takeFlip_of_lt (s := { s with arbiter := { s.arbiter with wrapHanded := false } }) hlt]
      have hpost := State.post_events_congr (s := s) (t := { s with arbiter := { s.arbiter with wrapHanded := false } }) rfl
        .switchDone .none none (s.mode.runSelect + 1).val
      dsimp only
      rw [hpost]
      rfl
    · obtain ⟨hframe, helapsed, hcond, hacc, hrank, hbanks, hevents⟩ := State.takeFlip_of_ge
        (s := { s with arbiter := { s.arbiter with wrapHanded := false } }) (ret := ret) hge hrange hneed hd.1
      refine ⟨_, rfl, hframe, helapsed, hcond, hacc, hrank, hbanks, hevents.trans ?_⟩
      refine State.post_events_congr ?_ _ _ _ _
      exact State.postExpiry_events_congr (fun _ => rfl) (fun _ => rfl) rfl
  · rw [exec_flip hr, State.flip, State.testWrap_of_waiting _ hw]
    exact h.imp_right fun hd => by rw [← Bool.not_eq_true, State.drained_iff]; exact hd
  · rw [exec_flip hr, State.flip, State.testWrap_of_none _ hw]

end

section
/-! PROOFS. TABLE_WRITE: a page field, a region entry and a remap entry (1.5, 4.5, 4.6, 8.1). -/

-- One proof after another: a thread for each would reserve more memory than the check allows.
set_option Elab.async false

namespace Sys2Proof.Machine

variable {s t u : State}

/-! ### Page fields -/

theorem ClosePolicy.ofCode_of_le {v : Nat} (h : v ≤ 1) : ∃ c, ClosePolicy.ofCode v = some c ∧ c.code = v := by
  interval_cases v
  · exact ⟨_, rfl, rfl⟩
  · exact ⟨_, rfl, rfl⟩

theorem ClosePolicy.ofCode_of_gt {v : Nat} (h : 1 < v) : ClosePolicy.ofCode v = none := by
  unfold ClosePolicy.ofCode
  split
  · omega
  · omega
  · rfl

theorem Owner.ofCode_of_le {v : Nat} (h : v ≤ 6) : ∃ o, Owner.ofCode v = some o ∧ o.code = v := by
  interval_cases v <;> exact ⟨_, rfl, rfl⟩

theorem Owner.ofCode_of_gt {v : Nat} (h : 6 < v) : Owner.ofCode v = none := by
  unfold Owner.ofCode
  split
  case h_8 => rfl
  all_goals omega

theorem toList_getElem?_put {α : Type} {n : Nat} (v : Vector α n) (i : Fin n) (a : α) (j : Nat) :
    (put v i a).toList[j]? = if j = i.val then some a else v.toList[j]? := by
  simp only [put, Vector.toList_set, List.getElem?_set]
  split
  next h => simp [h.symm]
  next h => rw [if_neg (Ne.symm h)]

/-- A value within the range of field `i` is taken by that field alone (R132, R134). -/
theorem Page.withField_of_takes {p : Page} {i v : Nat} (h : FieldTakes i v) :
    ∃ q, p.withField i v = some q ∧ q.field i = v ∧ ∀ j, j ≠ i → q.field j = p.field j := by
  obtain ⟨hi, hv⟩ := h
  unfold Page.withField
  split
  case h_13 =>
    obtain ⟨c, hc, hcode⟩ := ClosePolicy.ofCode_of_le hv.2
    exact ⟨{ p with closePolicy := c }, by rw [hc]; rfl, hcode, fun j hj => by unfold Page.field; split <;> trivial⟩
  case h_15 i =>
    obtain ⟨o, ho, hcode⟩ := Owner.ofCode_of_le hv.2
    have hlt : i < 16 := by omega
    refine ⟨_, by rw [dif_pos hlt, ho]; rfl, ?_, fun j hj => ?_⟩
    · change (((put p.wheel ⟨i, hlt⟩ o).toList[i]?).map Owner.code).getD 0 = v
      rw [toList_getElem?_put, if_pos rfl]
      exact hcode
    · unfold Page.field
      split
      case h_15 j => rw [toList_getElem?_put, if_neg fun hji => hj (by rw [hji])]
      all_goals rfl
  all_goals
    exact ⟨_, if_pos hv, rfl, fun j hj => by unfold Page.field; split <;> trivial⟩

theorem Page.withField_of_not_takes {p : Page} {i v : Nat} (h : ¬FieldTakes i v) : p.withField i v = none := by
  unfold Page.withField
  split
  case h_13 =>
    rw [ClosePolicy.ofCode_of_gt (by by_contra hv; exact h ⟨by omega, Nat.zero_le _, not_lt.1 hv⟩)]
    rfl
  case h_15 i =>
    split
    · rw [Owner.ofCode_of_gt (by by_contra hv; exact h ⟨by omega, Nat.zero_le _, not_lt.1 hv⟩)]
      rfl
    · rfl
  all_goals exact if_neg fun hv => h ⟨by omega, hv⟩

/-! ### Region commits -/

theorem RefreshClass.ofCode_code (c : RefreshClass) : RefreshClass.ofCode c.code = some c := by cases c <;> rfl

theorem RefreshClass.code_le {n : Nat} {c : RefreshClass} (h : RefreshClass.ofCode n = some c) : n ≤ 2 := by
  unfold RefreshClass.ofCode at h
  split at h
  case h_4 => cases h
  all_goals omega

theorem StagedRegion.rangeValid_iff {g : StagedRegion} : g.rangeValid = true ↔
    g.firstGroup ≤ 127 ∧ 1 ≤ g.groupCount ∧ g.groupCount ≤ 128 ∧ g.firstGroup + g.groupCount ≤ 128 := by
  simp [StagedRegion.rangeValid, and_assoc]

theorem rangesIntersect_iff {first count first' count' : Nat} (h : 1 ≤ count) (h' : 1 ≤ count') :
    rangesIntersect first count first' count' = true ↔
      ∃ n, first ≤ n ∧ n < first + count ∧ first' ≤ n ∧ n < first' + count' := by
  simp only [rangesIntersect, Bool.and_eq_true, decide_eq_true_eq]
  constructor
  · intro hr
    exact ⟨max first first', by omega, by omega, by omega, by omega⟩
  · rintro ⟨n, h1, h2, h3, h4⟩
    omega

theorem StagedRegion.overlapsOther_iff {g : StagedRegion} {i : Fin 16} (hg : 1 ≤ g.groupCount) (hs : s.RegionsInRange) :
    g.overlapsOther s.regions i = true ↔
      g.enabled = true ∧ ∃ j, j ≠ i ∧ ∃ n, g.firstGroup ≤ n ∧ n < g.firstGroup + g.groupCount ∧
        (s.regions.get j).covers g.bank n = true := by
  unfold StagedRegion.overlapsOther
  simp only [Bool.and_eq_true, List.any_eq_true, bne_iff_ne, beq_iff_eq, and_assoc]
  refine and_congr_right fun _ => exists_congr fun j => ?_
  rw [rangesIntersect_iff hg (hs j).1]
  simp only [Region.covers_iff, mem_allRegions, true_and, and_assoc]
  constructor
  · rintro ⟨hj, hen, hb, n, h1, h2, h3, h4⟩
    exact ⟨hj, n, h1, h2, hen, hb, h3, h4⟩
  · rintro ⟨hj, n, h1, h2, hen, hb, h3, h4⟩
    exact ⟨hj, hen, hb, n, h1, h2, h3, h4⟩

theorem StagedRegion.busy_iff {e : Region} {g : StagedRegion} {cls : RefreshClass} : g.busy e cls = true ↔
    e.refCount ≠ 0 ∧ (g.enabled = false ∨ g.bank ≠ e.bank ∨ g.firstGroup ≠ e.firstGroup ∨
      g.groupCount ≠ e.groupCount ∨ cls = .off) := by
  simp [StagedRegion.busy, or_assoc]

theorem Region.wakes_iff {old new : Region} :
    old.wakes new = true ↔ old.cls = .off ∧ (new.enabled = false ∨ new.cls ≠ .off) := by
  unfold Region.wakes
  cases new.enabled <;> simp

theorem State.writeRegion_of_named {i : Fin 16} {cls : RefreshClass} (hi : s.host.tableIndex.toNat = i.val)
    (hc : RefreshClass.ofCode (stagedRegion s.host.stage).clsCode = some cls) :
    s.writeRegion =
      if (stagedRegion s.host.stage).rangeValid = true then
        if (stagedRegion s.host.stage).overlapsOther s.regions i = true then s.setResult .overlap
        else if (stagedRegion s.host.stage).busy (s.regions.get i) cls = true then s.setResult .regionBusy
        else (s.commitRegion i ((stagedRegion s.host.stage).toRegion cls (s.regions.get i).refCount)).setResult .ok
      else s.setResult .badValue := by
  have hle : s.host.tableIndex.toNat ≤ 15 := by omega
  have hlt : s.host.tableIndex.toNat < 16 := by omega
  rw [← show (⟨s.host.tableIndex.toNat, hlt⟩ : Fin 16) = i from Fin.ext hi]
  unfold State.writeRegion
  dsimp only
  rw [dif_pos hle, hc]
  dsimp only
  cases (stagedRegion s.host.stage).rangeValid <;> rfl

theorem State.writeRegion_of_bad (h : ¬(s.host.tableIndex.toNat ≤ 15 ∧
    (stagedRegion s.host.stage).rangeValid = true ∧ (stagedRegion s.host.stage).clsCode ≤ 2)) :
    s.writeRegion = s.setResult .badValue := by
  by_cases hi : s.host.tableIndex.toNat ≤ 15
  · cases hc : RefreshClass.ofCode (stagedRegion s.host.stage).clsCode with
    | none =>
      unfold State.writeRegion
      dsimp only
      rw [dif_pos hi, hc]
    | some cls =>
      rw [State.writeRegion_of_named (i := ⟨s.host.tableIndex.toNat, by omega⟩) rfl hc,
        if_neg fun hv => h ⟨hi, hv, RefreshClass.code_le hc⟩]
  · unfold State.writeRegion
    dsimp only
    rw [dif_neg hi]

theorem classChanged_iff {old new : Vector Region 16} {b : BankId} :
    classChanged old new b = true ↔ ∃ n, n ≤ 128 ∧ classOf old b n ≠ classOf new b n := by
  simp [classChanged, Nat.lt_succ_iff]

/-- What a commit changes: the entry, the accounts of the banks it reclassifies, the rows it wakes and those it retires
(R66, R68). -/
theorem State.commitRegion_changes {i : Fin 16} {e : Region}
    (hr : { s with regions := put s.regions i e }.RegionsInRange) :
    let t := s.commitRegion i e
    let old := s.regions.get i
    t = { s with regions := put s.regions i e, refresh := t.refresh, dram := t.dram } ∧
    t.refresh.elapsed = s.refresh.elapsed ∧ t.refresh.conditioning = s.refresh.conditioning ∧
    (∀ b,
      (classChanged s.regions (put s.regions i e) b = true →
        t.account b = ({ s with regions := put s.regions i e }.retirementCheck b).account b) ∧
      (¬classChanged s.regions (put s.regions i e) b = true → t.account b = s.account b)) ∧
    ∀ a,
      let lost := ∃ b n, inGroup b n a = true ∧
        ((old.wakes e && old.covers b n) = true ∨
          (classOf t.regions b n = .off ∧ (s.account b).pointer ≤ n ∧ n < (t.account b).pointer))
      (lost → t.dram.read a = none) ∧ (¬lost → t.dram.read a = s.dram.read a) := by
  intro t old
  let u : State := { s with
    regions := put s.regions i e, dram := s.dram.forgetGroups fun b g => old.wakes e && old.covers b g }
  have hchecked : u.Checked t fun b => b ∈ allBanks ∧ classChanged s.regions (put s.regions i e) b = true :=
    State.retirementChecks_checked (s := u) (classChanged s.regions (put s.regions i e)) (by decide) fun _ => .inr hr
  have hregions : t.regions = put s.regions i e := State.commitRegion_regions i e
  clear_value t
  have hlost : ∀ a, (∃ b n, inGroup b n a = true ∧
        ((old.wakes e && old.covers b n) = true ∨
          (classOf t.regions b n = .off ∧ (s.account b).pointer ≤ n ∧ n < (t.account b).pointer))) ↔
      (∃ b n, (old.wakes e && old.covers b n) = true ∧ inGroup b n a = true) ∨ u.PassedOff t a := fun a => by
    rw [hregions]
    constructor
    · rintro ⟨b, n, ha, hw | ⟨hoff, hlow, hhigh⟩⟩
      · exact .inl ⟨b, n, hw, ha⟩
      · exact .inr ⟨b, n, ha, hoff, hlow, hhigh⟩
    · rintro (⟨b, n, hw, ha⟩ | ⟨b, n, ha, hoff, hlow, hhigh⟩)
      · exact ⟨b, n, ha, .inl hw⟩
      · exact ⟨b, n, ha, .inr ⟨hoff, hlow, hhigh⟩⟩
  refine ⟨hchecked.frame, hchecked.timer.1, hchecked.timer.2, fun b => ⟨fun hc => ?_, fun hc => ?_⟩, fun a => ?_⟩
  · rw [hchecked.checked b ⟨mem_allBanks b, hc⟩]
    exact State.retirementCheck_account_congr rfl rfl
  · exact hchecked.unchecked b fun h => hc h.2
  · dsimp only
    rw [hlost]
    have hforget := s.dram.read_forgetGroups (fun b g => old.wakes e && old.covers b g) a
    constructor
    · intro hl
      by_cases hp : u.PassedOff t a
      · exact hchecked.lost a hp
      · exact (hchecked.kept a hp).trans (hforget.1 (hl.resolve_right hp))
    · intro hl
      rw [not_or] at hl
      exact (hchecked.kept a hl.2).trans (hforget.2 hl.1)

end Sys2Proof.Machine

open Sys2Proof Sys2Proof.Machine

/-- Settles O40: the checks in their order, and what an accepted commit changes. -/
theorem tableWriteRegionChecksThenReplaces : Obligations.TableWriteRegionChecksThenReplaces := by
  intro s hr hranges hsel answer g inRange
  have hwrite : exec .tableWriteRegion s = .next s.writeRegion := by
    rw [exec_tableWriteRegion hr, State.tableWrite, if_pos hsel]
  rw [hwrite]
  refine ⟨fun hbad => ?_, ?_⟩
  · rw [State.writeRegion_of_bad fun h => hbad ⟨h.1, StagedRegion.rangeValid_iff.1 h.2.1, h.2.2⟩]
    rfl
  · intro i cls hi hin hcls e overlap busy entry
    have hnamed := State.writeRegion_of_named hi (hcls ▸ RefreshClass.ofCode_code cls)
    rw [if_pos (StagedRegion.rangeValid_iff.2 hin)] at hnamed
    have hoverlap : g.overlapsOther s.regions i = true ↔ overlap := StagedRegion.overlapsOther_iff hin.2.1 hranges
    have hbusy : g.busy e cls = true ↔ busy := StagedRegion.busy_iff
    rw [hnamed]
    refine ⟨fun ho => ?_, fun ho hb => ?_, fun ho hb => ?_⟩
    · rw [if_pos (hoverlap.2 ho)]; rfl
    · rw [if_neg (hoverlap.not.2 ho), if_pos (hbusy.2 hb)]; rfl
    · rw [if_neg (hoverlap.not.2 ho), if_neg (hbusy.not.2 hb)]
      have hedited : { s with regions := put s.regions i entry }.RegionsInRange := fun j => by
        dsimp only
        rw [get_put]
        split
        · exact ⟨hin.2.1, hin.2.2.2⟩
        · exact hranges j
      obtain ⟨hframe, helapsed, hcond, hacc, hrank⟩ := State.commitRegion_changes hedited
      change ∃ t, Host.Outcome.next ((s.commitRegion i entry).setResult .ok) = .next t ∧ _
      generalize s.commitRegion i entry = v at hframe helapsed hcond hacc hrank
      refine ⟨_, rfl, ?_, helapsed, hcond, fun b => ?_, fun a => ?_⟩
      · rw [hframe]; rfl
      · have hb := hacc b
        rw [classChanged_iff] at hb
        exact hb
      · have hwakes : ∀ b n, ((s.regions.get i).wakes entry && (s.regions.get i).covers b n) = true ↔
            (e.covers b n = true ∧ e.cls = .off ∧ (g.enabled = false ∨ cls ≠ .off)) := fun b n => by
          rw [Bool.and_eq_true, Region.wakes_iff]
          exact ⟨fun ⟨hw, hc⟩ => ⟨hc, hw⟩, fun ⟨hc, hw⟩ => ⟨hw, hc⟩⟩
        have ha := hrank a
        simp only [hwakes] at ha
        exact ha

/-- Settles O39: by the scheduler's state, the table select and the field's range. -/
theorem tableWritePageWritesOneField : Obligations.TableWritePageWritesOneField := by
  intro s hr hsel answer i v edit
  have hwrite : exec .tableWritePage s = .next s.writePage := by
    rw [exec_tableWritePage hr, State.tableWrite]
    obtain h | h := hsel <;> rw [h] <;> rfl
  rw [hwrite]
  refine ⟨fun ret hs => ?_, fun hs hbad => ?_, fun hs h2 hv => ?_⟩
  · rw [State.writePage, hs]; rfl
  · have hbadValue : s.writePage = s.setResult .badValue := by
      unfold State.writePage
      split
      next h => exact absurd h (hs _)
      · split
        · rfl
        next h3 =>
          rw [Page.withField_of_not_takes (hbad.resolve_left h3)]
    rw [hbadValue]; rfl
  · obtain ⟨page, hpage, hi, hj⟩ := Page.withField_of_takes (p := s.editPage) hv
    refine ⟨page, ?_, hi, hj⟩
    have hok : s.writePage =
        State.setResult { s with mode := { s.mode with pages := put s.mode.pages s.editSelect page } } .ok := by
      unfold State.writePage
      split
      next h => exact absurd h (hs _)
      · rw [if_neg (by rw [h2]; decide), hpage]
    rw [hok]; rfl

end

section
/-! PROOFS. TABLE_WRITE of a remap entry (1.5). -/

-- One proof after another: a thread for each would reserve more memory than the check allows.
set_option Elab.async false

namespace Sys2Proof.Machine

variable {s t u : State}

/-! ### The rows of an edit -/

/-- The spare has been left by an entry since the last REFRESH of its group (log 30). -/
def State.freed (s : State) (b : BankId) (k : Fin 16) : Bool := (s.history.freed.get b).get k

/-- The word is of the row (R4). -/
def InRow (b : BankId) (phys a : Nat) : Prop := dramAddr b phys 0 ≤ a ∧ a < dramAddr b phys 0 + 256

theorem Dram.read_forgetRow_of_in {m : Dram} {b : BankId} {phys a : Nat} (h : InRow b phys a) :
    (m.forgetRow b phys).read a = none := Dram.read_forget_of_inside m h

theorem Dram.read_forgetRow_of_out {m : Dram} {b : BankId} {phys a : Nat} (h : ¬InRow b phys a) :
    (m.forgetRow b phys).read a = m.read a := by
  refine Dram.read_forget_of_outside m ?_
  unfold InRow at h
  omega

namespace State

variable {i : Fin 8} {e : RemapEntry}

theorem returnRow_unrefreshed (j : Fin 8) :
    (s.returnRow i e).history.unrefreshed.get j = if i = j then false else s.history.unrefreshed.get j := get_put ..

theorem returnRow_read (a : Nat) :
    (s.history.unrefreshed.get i = true ∧ InRow e.bank e.faultyRow.val a → (s.returnRow i e).dram.read a = none) ∧
    (¬(s.history.unrefreshed.get i = true ∧ InRow e.bank e.faultyRow.val a) →
      (s.returnRow i e).dram.read a = s.dram.read a) := by
  unfold returnRow
  dsimp only
  constructor
  · rintro ⟨hi, ha⟩
    rw [if_pos hi, Dram.read_forgetRow_of_in ha]
  · intro h
    split
    next hi => exact Dram.read_forgetRow_of_out fun ha => h ⟨hi, ha⟩
    · rfl

theorem leaveSpare_freed (b : BankId) (k : Fin 16) :
    (s.leaveSpare e).freed b k = true ↔ s.freed b k = true ∨ (b = e.bank ∧ k = e.spare) := by
  unfold freed leaveSpare
  dsimp only
  rw [get_put]
  split
  next hb =>
    subst hb
    rw [get_put]
    split
    next hk => simp [hk]
    next hk => simp [Ne.symm hk]
  next hb => simp [Ne.symm hb]

theorem takeSpare_freed (b : BankId) (k : Fin 16) :
    (s.takeSpare e).freed b k = true ↔ s.freed b k = true ∧ ¬(b = e.bank ∧ k = e.spare) := by
  unfold freed takeSpare
  dsimp only
  rw [get_put]
  split
  next hb =>
    subst hb
    rw [get_put]
    split
    next hk => simp [hk]
    next hk => simp [Ne.symm hk]
  next hb => simp [Ne.symm hb]

theorem takeSpare_read (a : Nat) :
    (s.freed e.bank e.spare = true ∧ InRow e.bank (2048 + e.spare.val) a → (s.takeSpare e).dram.read a = none) ∧
    (¬(s.freed e.bank e.spare = true ∧ InRow e.bank (2048 + e.spare.val) a) →
      (s.takeSpare e).dram.read a = s.dram.read a) := by
  unfold takeSpare
  dsimp only
  constructor
  · rintro ⟨hf, ha⟩
    rw [show (s.history.freed.get e.bank).get e.spare = true from hf, if_pos rfl, Dram.read_forgetRow_of_in ha]
  · intro h
    split
    next hf => exact Dram.read_forgetRow_of_out fun ha => h ⟨hf, ha⟩
    · rfl

theorem coverRow_unrefreshed (j : Fin 8) :
    (s.coverRow i).history.unrefreshed.get j = if i = j then true else s.history.unrefreshed.get j := get_put ..

end State

/-- The edit stores an entry that was not there before: an add or a replacement (R9). -/
def RemapEntry.Adds (old new : RemapEntry) : Prop := new.valid = true ∧ ¬(old.valid = true ∧ old = new)

/-- The edit takes an entry away: a removal or a replacement (R9). -/
def RemapEntry.Leaves (old new : RemapEntry) : Prop := old.valid = true ∧ old ≠ new

/-- Both entries stand in for the same row (R9, R12). -/
def RemapEntry.KeepsRow (old new : RemapEntry) : Prop :=
  old.valid = true ∧ new.valid = true ∧ old.bank = new.bank ∧ old.faultyRow = new.faultyRow

theorem RemapEntry.sameRow_iff {old new : RemapEntry} : old.sameRow new = true ↔ old.KeepsRow new := by
  simp [RemapEntry.sameRow, RemapEntry.KeepsRow, and_assoc]

open Classical in
/-- The four parts of an edit: the faulty row is given back, the spare left, a spare taken, a faulty row covered. -/
theorem State.editRows_parts (i : Fin 8) (e : RemapEntry) :
    let old := s.remap.get i
    let a := if old.Leaves e ∧ ¬old.KeepsRow e then s.returnRow i old else s
    let b := if old.Leaves e then a.leaveSpare old else a
    let c := if old.Adds e then b.takeSpare e else b
    s.editRows i e = if old.Adds e ∧ ¬old.KeepsRow e then c.coverRow i else c := by
  unfold State.editRows
  dsimp only
  generalize s.remap.get i = old
  simp only [← RemapEntry.sameRow_iff]
  by_cases hv : old.valid = true
  · by_cases he : e = old
    · subst he
      simp [RemapEntry.Leaves, RemapEntry.Adds, hv]
    · by_cases hnew : e.valid = true
      · by_cases hk : old.sameRow e = true <;>
          simp [RemapEntry.Leaves, RemapEntry.Adds, hv, hnew, hk, he, Ne.symm he, State.leaveRows, State.takeRows]
      · have hk : ¬old.sameRow e = true := fun h => hnew (RemapEntry.sameRow_iff.1 h).2.1
        simp [RemapEntry.Leaves, RemapEntry.Adds, hv, hnew, hk, he, Ne.symm he, State.leaveRows]
  · have hk : ¬old.sameRow e = true := fun h => hv (RemapEntry.sameRow_iff.1 h).1
    by_cases hnew : e.valid = true <;>
      simp [RemapEntry.Leaves, RemapEntry.Adds, hv, hnew, hk, State.takeRows]

namespace State

variable {i : Fin 8} {e : RemapEntry}

theorem editRows_freed (b : BankId) (k : Fin 16) : (s.editRows i e).freed b k = true ↔
    (s.freed b k = true ∨ ((s.remap.get i).Leaves e ∧ b = (s.remap.get i).bank ∧ k = (s.remap.get i).spare)) ∧
      ¬((s.remap.get i).Adds e ∧ b = e.bank ∧ k = e.spare) := by
  classical
  rw [editRows_parts]
  generalize s.remap.get i = old
  have cover : ∀ (c : State) (p : Prop) [Decidable p], (if p then c.coverRow i else c).freed b k = c.freed b k := by
    intro c p _; split <;> rfl
  have give : ∀ (p : Prop) [Decidable p], (if p then s.returnRow i old else s).freed b k = s.freed b k := by
    intro p _; split <;> rfl
  rw [cover]
  by_cases hl : old.Leaves e <;> by_cases ha : old.Adds e <;>
    simp only [hl, ha, if_true, if_false, takeSpare_freed, leaveSpare_freed, give, true_and, false_and, not_false_eq_true,
      and_true, or_false]

theorem editRows_unrefreshed (j : Fin 8) :
    (j = i ∧ ((s.remap.get i).Adds e ∨ (s.remap.get i).Leaves e) ∧ ¬(s.remap.get i).KeepsRow e →
      ((s.editRows i e).history.unrefreshed.get j = true ↔ (s.remap.get i).Adds e)) ∧
    (¬(j = i ∧ ((s.remap.get i).Adds e ∨ (s.remap.get i).Leaves e) ∧ ¬(s.remap.get i).KeepsRow e) →
      (s.editRows i e).history.unrefreshed.get j = s.history.unrefreshed.get j) := by
  classical
  rw [editRows_parts]
  generalize s.remap.get i = old
  have spares : ∀ (c : State) (p q : Prop) [Decidable p] [Decidable q],
      (if q then (if p then c.leaveSpare old else c).takeSpare e else if p then c.leaveSpare old else c).history.unrefreshed =
        c.history.unrefreshed := by
    intro c p q _ _; split <;> split <;> rfl
  by_cases hk : old.KeepsRow e
  · simp [hk, spares]
  · by_cases ha : old.Adds e
    · simp only [ha, hk, not_false_eq_true, and_true, true_or, if_true, coverRow_unrefreshed]
      refine ⟨fun hj => by simp [hj], fun hj => ?_⟩
      rw [if_neg (Ne.symm hj)]
      have := spares (if old.Leaves e then s.returnRow i old else s) (old.Leaves e) True
      rw [if_pos trivial] at this
      rw [this]
      split
      · rw [returnRow_unrefreshed, if_neg (Ne.symm hj)]
      · rfl
    · by_cases hl : old.Leaves e
      · simp only [ha, hl, hk, not_false_eq_true, and_true, or_true, if_true, if_false]
        change (_ → ((s.returnRow i old).history.unrefreshed.get j = true ↔ _)) ∧
          (_ → (s.returnRow i old).history.unrefreshed.get j = _)
        rw [returnRow_unrefreshed]
        exact ⟨fun hj => by simp [hj], fun hj => if_neg (Ne.symm hj)⟩
      · simp [ha, hl]

/-- The words that an edit loses (R12, log 30). -/
def EditLoses (s : State) (i : Fin 8) (e : RemapEntry) (a : Nat) : Prop :=
  ((s.remap.get i).Leaves e ∧ ¬(s.remap.get i).KeepsRow e ∧ s.history.unrefreshed.get i = true ∧
      InRow (s.remap.get i).bank (s.remap.get i).faultyRow.val a) ∨
    ((s.remap.get i).Adds e ∧
      (s.freed e.bank e.spare = true ∨
        ((s.remap.get i).Leaves e ∧ e.bank = (s.remap.get i).bank ∧ e.spare = (s.remap.get i).spare)) ∧
      InRow e.bank (2048 + e.spare.val) a)

theorem editRows_read (a : Nat) :
    (s.EditLoses i e a → (s.editRows i e).dram.read a = none) ∧
    (¬s.EditLoses i e a → (s.editRows i e).dram.read a = s.dram.read a) := by
  classical
  rw [editRows_parts]
  unfold EditLoses
  generalize s.remap.get i = old
  have cover : ∀ (c : State) (p : Prop) [Decidable p], (if p then c.coverRow i else c).dram = c.dram := by
    intro c p _; split <;> rfl
  rw [cover]
  generalize hr : (if old.Leaves e ∧ ¬old.KeepsRow e then s.returnRow i old else s) = returned
  have hfreed : ∀ b k, returned.freed b k = s.freed b k := by
    intro b k; rw [← hr]; split <;> rfl
  generalize hl : (if old.Leaves e then returned.leaveSpare old else returned) = left
  have hleft : left.dram = returned.dram := by rw [← hl]; split <;> rfl
  have hleftFreed : left.freed e.bank e.spare = true ↔
      s.freed e.bank e.spare = true ∨ (old.Leaves e ∧ e.bank = old.bank ∧ e.spare = old.spare) := by
    rw [← hl]
    split
    next h => rw [leaveSpare_freed, hfreed]; simp [h]
    next h => rw [hfreed]; simp [h]
  have hreturned : (old.Leaves e ∧ ¬old.KeepsRow e ∧ s.history.unrefreshed.get i = true ∧
        InRow old.bank old.faultyRow.val a → returned.dram.read a = none) ∧
      (¬(old.Leaves e ∧ ¬old.KeepsRow e ∧ s.history.unrefreshed.get i = true ∧ InRow old.bank old.faultyRow.val a) →
        returned.dram.read a = s.dram.read a) := by
    rw [← hr]
    split
    next h =>
      exact ⟨fun hlost => (returnRow_read a).1 hlost.2.2, fun hkept => (returnRow_read a).2 fun hw => hkept ⟨h.1, h.2, hw⟩⟩
    next h => exact ⟨fun hlost => absurd ⟨hlost.1, hlost.2.1⟩ h, fun _ => rfl⟩
  rw [← hleftFreed]
  by_cases ha : old.Adds e
  · simp only [ha, true_and, if_true]
    by_cases hs : left.freed e.bank e.spare = true ∧ InRow e.bank (2048 + e.spare.val) a
    · exact ⟨fun _ => (takeSpare_read a).1 hs, fun h => absurd (.inr hs) h⟩
    · rw [(takeSpare_read a).2 hs, hleft]
      exact ⟨fun h => hreturned.1 (h.resolve_right hs), fun h => hreturned.2 fun hw => h (.inl hw)⟩
  · simp only [ha, false_and, or_false, if_false, hleft]
    exact hreturned

/-! ### The checks and the commit -/

theorem otherRemap_iff {t : Vector RemapEntry 8} {f : RemapEntry → Bool} :
    otherRemap t i f = true ↔ ∃ j, j ≠ i ∧ (t.get j).valid = true ∧ f (t.get j) = true := by
  simp [otherRemap, List.any_eq_true, and_assoc, mem_allRemap]

theorem rowHeldOpen_iff {b : BankId} {row : Fin 2048} :
    s.rowHeldOpen b row = true ↔ (s.banks.get b).openRow? = some row := by
  simp [rowHeldOpen]

open Classical in
/-- An add has its checks, a removal its own, and a replacement both (R9). -/
theorem remapRefusal_eq (i : Fin 8) (e : RemapEntry) :
    s.remapRefusal i e =
      ((if (s.remap.get i).Adds e then s.addRefusal i e else none).or
        (if (s.remap.get i).Leaves e then s.removeRefusal (s.remap.get i) else none)) := by
  unfold remapRefusal
  dsimp only
  generalize s.remap.get i = old
  by_cases hv : old.valid = true <;> by_cases hnew : e.valid = true
  · by_cases he : e = old
    · simp [RemapEntry.Adds, RemapEntry.Leaves, hv, he]
    · simp only [RemapEntry.Adds, RemapEntry.Leaves, hv, hnew, he, Ne.symm he, Bool.not_true, Bool.and_self,
        Bool.false_eq_true, if_false, if_true, ne_eq, not_false_eq_true, and_self, and_false]
      cases s.addRefusal i e <;> rfl
  · have he : old ≠ e := fun h => hnew (h ▸ hv)
    simp [RemapEntry.Adds, RemapEntry.Leaves, hv, hnew, he]
  · simp [RemapEntry.Adds, RemapEntry.Leaves, hv, hnew]
  · simp [RemapEntry.Adds, RemapEntry.Leaves, hv, hnew]

/-- The entry that a commit stages for a named row. -/
def stagedEntry (s : State) (row : Fin 2048) : RemapEntry :=
  { valid := (stagedRemap s.host.stage).valid, bank := (stagedRemap s.host.stage).bank, faultyRow := row
    spare := (stagedRemap s.host.stage).spare }

theorem writeRemap_of_named {row : Fin 2048} (hsched : s.mode.sched = .stopped ∨ s.mode.sched = .held)
    (hi : s.host.tableIndex.toNat = i.val) (hrow : (stagedRemap s.host.stage).faultyRow = row.val) :
    s.writeRemap =
      match s.remapRefusal i (s.stagedEntry row) with
      | some r => s.setResult r
      | none =>
        { s.editRows i (s.stagedEntry row) with
          remap := put s.remap i (remapStored (s.remap.get i) (s.stagedEntry row)) }.setResult .ok := by
  have hedit : s.mode.sched.remapEditable = true := by rcases hsched with h | h <;> rw [h] <;> rfl
  have hok : s.host.tableIndex.toNat ≤ 7 ∧ (stagedRemap s.host.stage).faultyRow ≤ 2047 := by omega
  have hidx : (⟨s.host.tableIndex.toNat, by omega⟩ : Fin 8) = i := Fin.ext hi
  have hr : (⟨(stagedRemap s.host.stage).faultyRow, by omega⟩ : Fin 2048) = row := Fin.ext hrow
  unfold writeRemap
  dsimp only
  rw [hedit, if_neg (by simp), dif_pos hok, hidx, hr]
  rfl

theorem remapStored_valid (old staged : RemapEntry) : (remapStored old staged).valid = staged.valid := by
  unfold remapStored
  split
  next h => simp only [Bool.and_eq_true, Bool.not_eq_true'] at h; exact h.2.symm
  · rfl

theorem remapStored_of_not_removal {old staged : RemapEntry} (h : ¬(old.valid = true ∧ staged.valid = false)) :
    remapStored old staged = staged := by
  unfold remapStored
  rw [if_neg (by simpa using h)]

end State

end Sys2Proof.Machine

open Sys2Proof Sys2Proof.Machine

/-- Settles O41: the checks by the class of the edit, then the four parts of an accepted edit one after another. -/
theorem tableWriteRemapChecksThenStores : Obligations.TableWriteRemapChecksThenStores := by
  classical
  intro s hr hselect answer g
  have hexec : exec .tableWriteRemap s = .next s.writeRemap := by
    rw [exec_tableWriteRemap hr, State.tableWrite, if_neg (by rw [hselect]; decide), if_pos hselect]
  rw [hexec]
  refine ⟨fun h1 h2 => ?_, fun hsched hbad => ?_, fun i row hsched hi hrow => ?_⟩
  · unfold State.writeRemap
    have hno : s.mode.sched.remapEditable = false := by
      generalize s.mode.sched = sched at h1 h2
      cases sched <;> trivial
    rw [hno]
    rfl
  · have hedit : s.mode.sched.remapEditable = true := by rcases hsched with h | h <;> rw [h] <;> rfl
    unfold State.writeRemap
    rw [hedit, if_neg (by simp), dif_neg hbad]
    rfl
  · intro old new duplicate spareUsed held adds leaves keepsRow
    have hdup : otherRemap s.remap i (fun o => o.bank == new.bank && o.faultyRow == new.faultyRow) = true ↔ duplicate := by
      simp [State.otherRemap_iff, duplicate, new, g]
    have hspare : otherRemap s.remap i (fun o => o.bank == new.bank && o.spare == new.spare) = true ↔ spareUsed := by
      simp [State.otherRemap_iff, spareUsed, new, g]
    have hheld : ∀ b r, s.rowHeldOpen b r = true ↔ held b r := fun b r => State.rowHeldOpen_iff
    have refuse : ∀ r, s.remapRefusal i new = some r → Host.Outcome.next s.writeRemap =
        (.next (answer r) : Host.Outcome State Fault Refusal) := by
      intro r h
      rw [State.writeRemap_of_named hsched hi hrow]
      rw [show s.stagedEntry row = new from rfl, h]
      rfl
    have hremoval : leaves → held old.bank old.faultyRow → s.removeRefusal old = some .rowOpen := fun _ h =>
      if_pos ((hheld _ _).2 h)
    have hadd : ¬duplicate → ¬spareUsed → ¬held g.bank row → s.addRefusal i new = none := by
      intro h1 h2 h3
      rw [State.addRefusal, if_neg (mt hdup.1 h1), if_neg (mt hspare.1 h2), if_neg (mt (hheld _ _).1 h3)]
    have hadds : (adds → ¬duplicate ∧ ¬spareUsed ∧ ¬held g.bank row) →
        (if old.Adds new then s.addRefusal i new else none) = none := by
      intro h
      split
      next ha => exact hadd (h ha).1 (h ha).2.1 (h ha).2.2
      · rfl
    have hrefuse : ∀ r, adds → s.addRefusal i new = some r → s.remapRefusal i new = some r := by
      intro r ha h
      rw [State.remapRefusal_eq, if_pos (show (s.remap.get i).Adds new from ha), h]
      rfl
    refine ⟨fun ha hd => ?_, fun ha hd hs => ?_, fun ha hd hs ho => ?_, fun hl ha ho => ?_, fun ha hl => ?_⟩
    · exact refuse _ (hrefuse _ ha (if_pos (hdup.2 hd)))
    · exact refuse _ (hrefuse _ ha (by rw [State.addRefusal, if_neg (mt hdup.1 hd), if_pos (hspare.2 hs)]))
    · refine refuse _ (hrefuse _ ha ?_)
      rw [State.addRefusal, if_neg (mt hdup.1 hd), if_neg (mt hspare.1 hs), if_pos ((hheld _ _).2 ho)]
    · refine refuse _ ?_
      rw [State.remapRefusal_eq, hadds ha, if_pos (show (s.remap.get i).Leaves new from hl), hremoval hl ho]
      rfl
    · have hnone : s.remapRefusal i new = none := by
        rw [State.remapRefusal_eq, hadds ha]
        split
        next hleaves => exact if_neg (mt (hheld _ _).1 (hl hleaves))
        · rfl
      have hwrite : s.writeRemap =
          { s.editRows i new with remap := put s.remap i (remapStored old new) }.setResult .ok := by
        rw [State.writeRemap_of_named hsched hi hrow]
        rw [show s.stagedEntry row = new from rfl, hnone]
      have hframe := s.editRows_eq i new
      have hfreed := s.editRows_freed (i := i) (e := new)
      have hunrefreshed := s.editRows_unrefreshed (i := i) (e := new)
      have hread := s.editRows_read (i := i) (e := new)
      generalize s.editRows i new = edited at hwrite hframe hfreed hunrefreshed hread
      refine ⟨remapStored old new, _, rfl, ?_, State.remapStored_valid old new, fun h => State.remapStored_of_not_removal h, ?_⟩
      · rw [hwrite, hframe]
        rfl
      · rw [hwrite]
        intro freed
        refine ⟨hfreed, fun j => ?_, fun a => hread a⟩
        split
        next hj => exact (hunrefreshed j).1 hj
        next hj => exact iff_of_eq (congrArg (· = true) ((hunrefreshed j).2 hj))
end

section
/-! PROOFS. The host's GO: what is filed and what is refused (3.1, 10.6). -/

-- One proof after another: a thread for each would reserve more memory than the check allows.
set_option Elab.async false

namespace Sys2Proof.Machine

variable {s t u : State}

/-! ### The lookup -/

theorem coveringRegion_of_covers {i : Fin 16} {b : BankId} {g : Nat} (hd : s.RegionsDisjoint)
    (h : (s.regions.get i).covers b g = true) : coveringRegion s.regions b g = some i := by
  unfold coveringRegion
  cases hf : allRegions.find? fun i => (s.regions.get i).covers b g with
  | none => exact absurd h (List.find?_eq_none.1 hf i (mem_allRegions i))
  | some j => rw [hd j i b g (List.find?_some (p := fun i => (s.regions.get i).covers b g) hf) h]

theorem lookup_of_uncovered {who : Requester} {kind : Kind} {b : BankId} {row : Fin 2048}
    (h : ∀ i, (s.regions.get i).covers b (row.val / 16) = false) : lookup s.regions who kind b row = .noRegion := by
  have hnone : coveringRegion s.regions b (groupOf row) = none :=
    List.find?_eq_none.2 fun i _ => by simp [groupOf, h i]
  rw [lookup, hnone]

/-- What the covering entry answers (R60). -/
theorem lookup_of_covers {who : Requester} {kind : Kind} {b : BankId} {row : Fin 2048} {i : Fin 16}
    (hd : s.RegionsDisjoint) (h : (s.regions.get i).covers b (row.val / 16) = true) :
    lookup s.regions who kind b row =
      if (s.regions.get i).cls = .off then .parked i
      else if (s.regions.get i).permits who kind then .granted i
      else .denied i := by
  rw [lookup, show coveringRegion s.regions b (groupOf row) = some i from coveringRegion_of_covers hd h]

theorem schedRefusal_host {st : SchedState} :
    (st = .stopped ∨ st = .init → schedRefusal .host st = some .notRunning) ∧
    (st ≠ .stopped → st ≠ .init → schedRefusal .host st = none) := by
  cases st with
  | drainSwitch ret => cases ret <;> simp [schedRefusal]
  | _ => simp [schedRefusal]

/-! ### The word address of a slot -/

theorem Slot.address_lt (k : Slot) : k.address < 2097152 := by
  have h1 := k.addrHigh.isLt
  have h2 := k.addrLow.isLt
  unfold Slot.address
  omega

theorem Slot.addrBank_address {k : Slot} {bank : BankId} (h : bank.val = k.address / 524288) : addrBank k.address = bank := by
  have := k.address_lt
  exact Fin.ext (by simp only [addrBank, h]; omega)

/-! ### The GO -/

theorem exec_goOf (h : s.Released) (k : SlotId) (kind : Kind) : exec (goOf kind k) s = .next (s.go k kind) := by
  cases kind
  · exact exec_goRead h k
  · exact exec_goWrite h k

theorem State.go_of_free {k : SlotId} {kind : Kind} (h : (s.host.slots.get k).state = .free) :
    s.go k kind = ((s.modSlot k fun e => { e with kind := kind }).admitHost k kind).setResult .ok := by
  unfold State.go
  rw [h]

theorem State.go_of_not_free {k : SlotId} {kind : Kind} (h : (s.host.slots.get k).state ≠ .free) :
    s.go k kind = s.setResult .busy := by
  unfold State.go
  split
  next hf => exact absurd hf h
  · rfl

theorem State.post_of_events_eq (h : t.events = s.events) (k : EventKind) (o : Source) (tag : Option (Fin 16)) (d : Nat) :
    t.post k o tag d = { t with events := (s.post k o tag d).events } := by
  rw [t.post_eq, State.post_events_congr h]

/-- The state that a refused GO leaves. -/
def State.goFailed (s : State) (k : SlotId) (kind : Kind) (reason : Reason) (events : EventQueue) : State :=
  { s with
    host := { s.host with
      slots := put s.host.slots k { s.host.slots.get k with kind := kind, state := .failed reason }
      result := .ok
      detail := 0 }
    events := events }

theorem State.failSlot_goFailed (k : SlotId) (kind : Kind) (reason : Reason) (events : EventQueue) :
    (({ s.modSlot k fun e => { e with kind := kind } with events := events } : State).failSlot k reason).setResult .ok =
      s.goFailed k kind reason events := by
  simp only [State.failSlot, State.modSlot, State.setResult, State.goFailed, get_put_self, put_put]

/-- A GO that a region check refuses leaves its slot FAILED and posts ACCESS_DENIED (R36, R38). -/
theorem State.goFailed_of_denied (k : SlotId) (kind : Kind) (reason : Reason) (o : Source) (tag : Fin 16) (d : Nat)
    (hd : deniedDetail .host reason = d) :
    (((s.modSlot k fun e => { e with kind := kind }).postDenied .host tag o reason).failSlot k reason).setResult .ok =
      s.goFailed k kind reason (s.post .accessDenied o (some tag) d).events := by
  rw [State.postDenied, State.post_of_events_eq (s := s) (t := s.modSlot k fun e => { e with kind := kind }) rfl, hd, State.failSlot_goFailed]

end Sys2Proof.Machine

open Sys2Proof Sys2Proof.Machine

/-- Settles O28: the lookup grants the request, whose record has the fields of the word address. -/
theorem goFilesHostRequest : Obligations.GoFilesHostRequest := by
  intro s k kind i bank row burst word hr hfree hstop hinit ha hd hcov hoff hpermit
  obtain ⟨hbank, hrow, hburst, hword⟩ := ha
  rw [exec_goOf hr, State.go_of_free hfree]
  have haddr : ((s.modSlot k fun e => { e with kind := kind }).host.slots.get k).address = (s.host.slots.get k).address := by
    rw [State.modSlot_get_self]; rfl
  have h1 : addrBank (s.host.slots.get k).address = bank := Slot.addrBank_address hbank
  have h2 : addrRow (s.host.slots.get k).address = row := Fin.ext hrow.symm
  have h3 : addrBurst (s.host.slots.get k).address = burst := Fin.ext hburst.symm
  have h4 : addrWord (s.host.slots.get k).address = word := Fin.ext hword.symm
  have hlookup : lookup s.regions .host kind bank row = .granted i := by
    rw [lookup_of_covers hd hcov, if_neg hoff, if_pos hpermit]
  have hadmit : (s.modSlot k fun e => { e with kind := kind }).admitHost k kind =
      (s.modSlot k fun e => { e with kind := kind }).fileHost k kind i := by
    unfold State.admitHost
    dsimp only
    rw [haddr, h1, h2, State.modSlot_mode, State.modSlot_regions, schedRefusal_host.2 hstop hinit, hlookup]
  rw [hadmit]
  unfold State.fileHost hostRecord
  dsimp only
  rw [haddr, h1, h2, h3, h4]
  simp only [State.takeStamp, State.modRegion, State.modSlot, State.setResult, get_put_self, put_put]

/-- Settles O29: the first check that fails decides the reason. -/
theorem goRefused : Obligations.GoRefused := by
  intro s k kind bank row hr ha failed
  obtain ⟨hbank, hrow⟩ := ha
  rw [exec_goOf hr]
  have h1 : addrBank (s.host.slots.get k).address = bank := Slot.addrBank_address hbank
  have h2 : addrRow (s.host.slots.get k).address = row := Fin.ext hrow.symm
  have haddr : ((s.modSlot k fun e => { e with kind := kind }).host.slots.get k).address = (s.host.slots.get k).address := by
    rw [State.modSlot_get_self]; rfl
  have hlooked : (s.host.slots.get k).state = .free → s.mode.sched ≠ .stopped → s.mode.sched ≠ .init →
      ∀ answer, lookup s.regions .host kind bank row = answer →
      s.go k kind =
        (match answer with
        | .granted i => (s.modSlot k fun e => { e with kind := kind }).fileHost k kind i
        | .noRegion =>
          ((s.modSlot k fun e => { e with kind := kind }).postDenied .host ⟨k.val, by omega⟩ .none .noRegion).failSlot k
            .noRegion
        | .parked i =>
          ((s.modSlot k fun e => { e with kind := kind }).postDenied .host ⟨k.val, by omega⟩ (.region i) .parked).failSlot k
            .parked
        | .denied i =>
          ((s.modSlot k fun e => { e with kind := kind }).postDenied .host ⟨k.val, by omega⟩ (.region i) .denied).failSlot k
            .denied).setResult .ok := by
    intro hfree hstop hinit answer hanswer
    rw [State.go_of_free hfree]
    unfold State.admitHost
    dsimp only
    rw [haddr, h1, h2, State.modSlot_mode, State.modSlot_regions, schedRefusal_host.2 hstop hinit]
    cases answer <;> rw [hanswer]
  refine ⟨fun hbusy => ?_, fun hfree hsched => ?_, fun hfree hstop hinit => ⟨fun hcov => ?_, fun i hd hcov => ⟨fun hoff => ?_,
    fun hoff hdeny => ?_⟩⟩⟩
  · rw [State.go_of_not_free hbusy]
    rfl
  · rw [State.go_of_free hfree]
    unfold State.admitHost
    dsimp only
    rw [State.modSlot_mode, schedRefusal_host.1 hsched]
    exact congrArg _ (State.failSlot_goFailed k kind .notRunning s.events)
  · rw [hlooked hfree hstop hinit _ (lookup_of_uncovered hcov)]
    dsimp only
    rw [State.goFailed_of_denied k kind .noRegion .none _ _ rfl]
    rfl
  · rw [hlooked hfree hstop hinit _ ((lookup_of_covers hd hcov).trans (if_pos hoff))]
    dsimp only
    rw [State.goFailed_of_denied k kind .parked (.region i) _ _ rfl]
    rfl
  · rw [hlooked hfree hstop hinit (.denied i) ((lookup_of_covers hd hcov).trans (by rw [if_neg hoff, hdeny]; rfl))]
    dsimp only
    rw [State.goFailed_of_denied k kind .denied (.region i) _ _ rfl]
    rfl
end

section
/-! PROOFS. The client link: the window of an arriving frame, frames discarded, CANCEL, and the disabling of a port
(2.2, 2.4, 2.5, 10.8). -/

-- One proof after another: a thread for each would reserve more memory than the check allows.
set_option Elab.async false

namespace Sys2Proof.Machine

variable {s t u : State}

/-! ### The window of a happening -/

namespace State

theorem inWindow_mode (next : Bool) : (s.inWindow next).mode = s.mode := by rw [s.inWindow_eq]
theorem inWindow_events (next : Bool) : (s.inWindow next).events = s.events := by rw [s.inWindow_eq]
theorem inWindow_regions (next : Bool) : (s.inWindow next).regions = s.regions := by rw [s.inWindow_eq]
theorem inWindow_banks (next : Bool) : (s.inWindow next).banks = s.banks := by rw [s.inWindow_eq]
theorem inWindow_stamp (next : Bool) : (s.inWindow next).stamp = s.stamp := by rw [s.inWindow_eq]
theorem inWindow_host (next : Bool) : (s.inWindow next).host = s.host := by rw [s.inWindow_eq]

theorem inWindow_queue (next : Bool) (p : PortId) : ((s.inWindow next).ports.get p).queue = (s.ports.get p).queue := by
  obtain ⟨-, -, -, -, hqueue⟩ := s.inWindow_port_keeps next p
  exact hqueue

theorem inWindow_port_state (next : Bool) (p : PortId) : ((s.inWindow next).ports.get p).state = (s.ports.get p).state := by
  obtain ⟨henabled, hprst, -, -, -⟩ := s.inWindow_port_keeps next p
  rw [Port.state, Port.state, henabled, hprst]

theorem atArrival_port_state (a : Arrival) (p : PortId) :
    ((s.atArrival a).ports.get p).state = (s.ports.get p).state :=
  s.inWindow_port_state a.inNextWindow p

/-- A window begun since the last decision is a new one at every port (R15, R23). -/
theorem inWindow_of_begun {next : Bool} (hn : next = true) (hd : s.decided = true) :
    s.inWindow next = { s with
      decided := false
      ports := s.ports.map fun k => { k with messageTaken := false, outbound := [], outboundLast := k.outbound } } := by
  subst hn
  unfold State.inWindow State.beginWindow
  rw [if_pos rfl, if_pos hd]
  rfl

theorem inWindow_of_running {next : Bool} (h : next = false ∨ s.decided = false) : s.inWindow next = s := by
  rcases h with rfl | h
  · rfl
  · exact s.inWindow_of_undecided h next

/-! ### What the finishes of records take away -/

theorem CountsLowered.of_regions {v w : State} {l : List Record} (h : s.CountsLowered t l) (hs : v.regions = s.regions)
    (ht : w.regions = t.regions) : v.CountsLowered w l := by
  unfold State.CountsLowered
  rw [hs, ht]
  exact h

theorem PinsLowered.of_banks {v w : State} {l : List Record} (h : s.PinsLowered t l) (hs : v.banks = s.banks)
    (ht : w.banks = t.banks) : v.PinsLowered w l := by
  unfold State.PinsLowered
  rw [hs, ht]
  exact h

theorem Settled.of_start {v : State} (h : s.Settled t) (hm : v.mode = s.mode) (he : v.events = s.events) : v.Settled t := by
  unfold State.Settled
  rw [hm, he, State.post_events_congr he]
  exact h

/-! ### What becomes of a frame -/

theorem receive_of_metPrst {p : PortId} {a : Arrival} (h : a.metPrst = true) : s.receive p a = s.atArrival a := if_pos h

theorem receive_of_inReset {p : PortId} {a : Arrival} (h : (s.ports.get p).state = .inReset) :
    s.receive p a = s.atArrival a := by
  unfold State.receive
  split
  · rfl
  · unfold State.takeFrame
    rw [atArrival_port_state, h]

/-- The second frame of a window is discarded (R15, R17). -/
theorem receive_of_taken {p : PortId} {a : Arrival} (hm : a.metPrst = false) (hr : (s.ports.get p).state ≠ .inReset)
    (ht : ((s.atArrival a).ports.get p).messageTaken = true) :
    s.receive p a = (s.atArrival a).discardFrame p (frameCode a.bytes) := by
  unfold State.receive
  rw [hm, if_neg (by decide), State.takeFrame, atArrival_port_state, ht]
  cases h : (s.ports.get p).state with
  | inReset => exact absurd h hr
  | enabled => rfl
  | disabled => rfl

/-- The first frame of a window is taken as its bytes and the setting of the port give (R15). -/
theorem receive_of_first {p : PortId} {a : Arrival} {enabled : Bool} (hm : a.metPrst = false)
    (hs : (s.ports.get p).state = if enabled then .enabled else .disabled)
    (ht : ((s.atArrival a).ports.get p).messageTaken = false) :
    s.receive p a = (s.atArrival a).takeMessage p enabled (parseFrame a.bytes) := by
  unfold State.receive
  rw [hm, if_neg (by decide), State.takeFrame, atArrival_port_state, ht, hs]
  cases enabled <;> rfl

theorem markTaken_eq_answered (p : PortId) : u.markTaken p = u.answered p [] := by
  simp [State.markTaken, State.modPort, State.answered]

theorem answered_notify (p : PortId) (l : List Notice) (n : Notice) :
    (u.answered p l).notify p n = u.answered p (l ++ [n]) := by
  simp only [State.notify, State.modPort, State.answered, get_put_self, put_put, List.append_assoc]

theorem answered_queue (p : PortId) (l : List Notice) :
    ((u.answered p l).ports.get p).queue = (u.ports.get p).queue := by
  simp only [State.answered, get_put_self]

/-- A frame that names no kind, or a frame cut short, is discarded whatever the port's setting (R17). -/
theorem discardFrame_eq (hu : u.events = s.events) (p : PortId) (code : Byte) :
    u.discardFrame p code = { u with events := (s.post .protocolError (.port p) none code.toNat).events } :=
  State.post_of_events_eq hu ..

end State

/-- A finish changes its port, its region's count and its bank's pins alone (R47). -/
theorem State.finishClient_eq (p : PortId) (r : Record) (st : FinishStatus) :
    s.finishClient p r st = { s with
      ports := put s.ports p { s.ports.get p with
        queue := (s.ports.get p).queue.eraseP fun q => q.tag == r.tag
        outbound := (s.ports.get p).outbound ++ [r.doneNotice st] }
      regions := (s.finishClient p r st).regions
      banks := (s.finishClient p r st).banks } := by
  unfold State.finishClient
  rw [s.release_eq]
  rfl

/-- A port that is emptied gives back what its records held, and changes nothing else of another block (R29, R30). -/
theorem State.emptyPort_eq (p : PortId) (f : List Record → List Notice) :
    s.emptyPort p f = { s with
      ports := put s.ports p { s.ports.get p with
        queue := [], outbound := (s.ports.get p).outbound ++ f (s.ports.get p).queue }
      regions := (s.emptyPort p f).regions
      banks := (s.emptyPort p f).banks } := by
  unfold State.emptyPort
  simp [State.modPort]

theorem frameCode_eq_headD (l : List Byte) : frameCode l = l.headD 0 := by
  cases l <;> rfl

theorem Port.state_eq_of_not_inReset {k : Port} (h : k.state ≠ .inReset) :
    ∃ enabled : Bool, k.state = if enabled then .enabled else .disabled := by
  cases hk : k.state with
  | inReset => exact absurd hk h
  | enabled => exact ⟨true, rfl⟩
  | disabled => exact ⟨false, rfl⟩

/-- Where no earlier record carries the tag, the record that carries it is the one that leaves. -/
theorem eraseP_tag {pre post : List Record} {r : Record} (h : ∀ q ∈ pre, q.tag ≠ r.tag) :
    (pre ++ r :: post).eraseP (fun q => q.tag == r.tag) = pre ++ post := by
  rw [List.eraseP_append_right _ (by simpa using h), List.eraseP_cons_of_pos (by simp)]

/-- What is left of the port where a CANCEL finishes its record (R18). -/
theorem State.cancelled_eq {p : PortId} {pre post : List Record} {r : Record}
    (hq : (u.ports.get p).queue = pre ++ r :: post) (hpre : ∀ q ∈ pre, q.tag ≠ r.tag) :
    (u.answered p []).finishClient p r .cancelled = { u with
      ports := put u.ports p { u.ports.get p with
        messageTaken := true
        queue := pre ++ post
        outbound := (u.ports.get p).outbound ++ [.done r.tag .cancelled r.burstsDone r.preempted] }
      regions := ((u.answered p []).finishClient p r .cancelled).regions
      banks := ((u.answered p []).finishClient p r .cancelled).banks } := by
  refine (State.finishClient_eq ..).trans ?_
  generalize (u.answered p []).finishClient p r .cancelled = t
  simp only [State.answered, get_put_self, put_put, List.append_nil, hq, eraseP_tag hpre]
  rfl

/-- What is left of a port that is disabled while ENABLED (R29). -/
theorem State.disabled_eq (p : PortId) :
    ((u.flushPort p).modPort p fun k => { k with enabled := false }) = { u with
      ports := put u.ports p { u.ports.get p with
        enabled := false
        queue := []
        outbound := (u.ports.get p).outbound ++ (u.ports.get p).queue.map (Record.doneNotice .flushed) }
      regions := (u.flushPort p).regions
      banks := (u.flushPort p).banks } := by
  unfold State.modPort State.flushPort
  rw [State.emptyPort_eq]
  simp only [get_put_self, put_put]

/-- A drain that a happening completes changes the state and the events alone. -/
theorem State.settleDrain_eq_of (h : s = t) :
    s.settleDrain = { t with mode := s.settleDrain.mode, events := s.settleDrain.events } := by
  subst h
  exact s.settleDrain_eq

theorem find?_first_tag {pre post : List Record} {r : Record} (h : ∀ q ∈ pre, q.tag ≠ r.tag) :
    (pre ++ r :: post).find? (fun q => q.tag == r.tag) = some r := by
  rw [List.find?_append, List.find?_eq_none.2 (by simpa using h), List.find?_cons_of_pos (by simp)]
  rfl

end Sys2Proof.Machine

open Sys2Proof Sys2Proof.Machine

/-- Settles O48: the window of the frame, then the port's state and its mark decide. -/
theorem frameDiscardedOrIgnored : Obligations.FrameDiscardedOrIgnored := by
  intro s p frame hr u discarded
  have hexec : ∀ c ∈ [Instr.request p frame, .cancel p frame, .discardedFrame p frame],
      exec c s = .next (s.receive p frame) := by
    intro c hc
    simp only [List.mem_cons, List.not_mem_nil, or_false] at hc
    obtain rfl | rfl | rfl := hc
    · exact exec_request hr p frame
    · exact exec_cancel hr p frame
    · exact exec_discardedFrame hr p frame
  have hevents : (s.atArrival frame).events = s.events := s.inWindow_events frame.inNextWindow
  refine ⟨State.inWindow_of_begun, State.inWindow_of_running, fun hm c hc => ?_, fun hm hs ht c hc => ?_,
    fun hm hs ht => ⟨fun code hcode => ?_, fun code hcode => ?_⟩, fun hs c hc => ?_⟩
  · rw [hexec c hc, State.receive_of_metPrst hm]
  · rw [hexec c hc, State.receive_of_taken hm hs ht, frameCode_eq_headD, State.discardFrame_eq hevents]
  · obtain ⟨enabled, henabled⟩ := Port.state_eq_of_not_inReset hs
    rw [exec_discardedFrame hr, State.receive_of_first hm henabled ht, hcode, State.takeMessage,
      State.markTaken_eq_answered, State.discardFrame_eq (s := s) (u := (s.atArrival frame).answered p []) hevents]
  · obtain ⟨enabled, henabled⟩ := Port.state_eq_of_not_inReset hs
    rw [exec_discardedFrame hr, State.receive_of_first hm henabled ht, hcode, State.takeMessage,
      State.discardFrame_eq hevents]
  · rw [hexec c hc, State.receive_of_inReset hs]

/-- Settles O47: the record found under the tag is the one that leaves, and its release is taken from the counts and
pins. -/
theorem cancelFinishesItsRecord : Obligations.CancelFinishesItsRecord := by
  intro s p frame tag u hr hm ht hframe
  have hqueue : ((u.answered p []).ports.get p).queue = (s.ports.get p).queue :=
    (State.answered_queue p []).trans (s.inWindow_queue frame.inNextWindow p)
  have htaken : ∀ enabled : Bool, (s.ports.get p).state = (if enabled then .enabled else .disabled) →
      exec (.cancel p frame) s =
        .next (if enabled then (u.answered p []).cancelTag p tag else u.answered p []) := by
    intro enabled hs
    rw [exec_cancel hr, State.receive_of_first hm hs ht, hframe, State.takeMessage, State.markTaken_eq_answered]
  refine ⟨fun pre r post hs hq htag hpre => ?_, fun hs hnone => ?_, fun hs => htaken false hs⟩
  · subst htag
    have hregions : (u.answered p []).regions = s.regions := s.inWindow_regions frame.inNextWindow
    have hbanks : (u.answered p []).banks = s.banks := s.inWindow_banks frame.inNextWindow
    have hmode : (u.answered p []).mode = s.mode := s.inWindow_mode frame.inNextWindow
    have hevents : (u.answered p []).events = s.events := s.inWindow_events frame.inNextWindow
    refine ⟨((u.answered p []).finishClient p r .cancelled).settleDrain, ?_, ?_, ?_, ?_, ?_⟩
    · rw [htaken true hs, if_pos rfl, State.cancelTag, hqueue, hq, find?_first_tag hpre]
    · refine (State.settleDrain_eq_of (State.cancelled_eq ((s.inWindow_queue _ p).trans hq) hpre)).trans ?_
      rw [State.settleDrain_regions, State.settleDrain_banks]
      rfl
    · exact ((u.answered p []).releaseAll_counts [r]).of_regions hregions.symm (by simp [State.finishClient_regions])
    · exact ((u.answered p []).releaseAll_pins [r]).of_banks hbanks.symm (by simp [State.finishClient_banks])
    · exact State.Settled.of_eq (by simp [hmode]) (by simp [hevents])
  · rw [htaken true hs, if_pos rfl, State.cancelTag, hqueue, List.find?_eq_none.2 (by simpa using hnone)]

/-- Settles O43: the flush of the port with the change of its setting, then mode control's part. -/
theorem portDisableFlushes : Obligations.PortDisableFlushes := by
  intro s p next hr u
  have hhost : (u.selectPort p).host = { s.host with portSelect := p } := by
    rw [← s.inWindow_host next]
    rfl
  refine ⟨State.inWindow_of_begun, State.inWindow_of_running, fun hs => ?_, fun hs => ?_⟩
  · have hstate : ((u.selectPort p).ports.get p).state = .enabled := (s.inWindow_port_state next p).trans hs
    have hqueue : ((u.selectPort p).ports.get p).queue = (s.ports.get p).queue := s.inWindow_queue next p
    have hdisable : (u.selectPort p).disablePort p =
        (((u.selectPort p).flushPort p).modPort p fun k => { k with enabled := false }).settleDrain := by
      rw [State.disablePort, hstate]
    refine ⟨(u.selectPort p).disablePort p, exec_portDisable hr p next, ?_, ?_, ?_, ?_⟩
    · rw [hdisable]
      refine (State.settleDrain_eq_of (State.disabled_eq p)).trans ?_
      rw [State.settleDrain_regions, State.settleDrain_banks, hqueue, hhost]
      rfl
    · rw [hdisable, ← hqueue]
      exact ((u.selectPort p).emptyPort_counts p _).of_regions (t := (u.selectPort p).flushPort p) (s.inWindow_regions next).symm
        (by simp)
    · rw [hdisable, ← hqueue]
      exact ((u.selectPort p).emptyPort_pins p _).of_banks (t := (u.selectPort p).flushPort p) (s.inWindow_banks next).symm (by simp)
    · rw [hdisable]
      refine State.Settled.of_eq ?_ ?_
      · simp [State.flushPort]
        exact s.inWindow_mode next
      · simp [State.flushPort]
        exact s.inWindow_events next
  · have hstate : ((u.selectPort p).ports.get p).state ≠ .enabled := by
      rw [show ((u.selectPort p).ports.get p).state = _ from s.inWindow_port_state next p]
      exact hs
    rw [exec_portDisable hr, State.disablePort]
    split
    next h => exact absurd h hstate
    · rw [← hhost]
      rfl
end

section
/-! PROOFS. Admission of a client's REQUEST: the checks in order and the filing (2.2, 3.1). -/

-- One proof after another: a thread for each would reserve more memory than the check allows.
set_option Elab.async false

namespace Sys2Proof.Machine

variable {s t u : State}

/-! ### The checks on an ENABLED port -/

theorem schedRefusal_port {p : PortId} {r : RequestFields} :
    (s.mode.sched = .stopped ∨ s.mode.sched = .init → s.clientRefusal p r = some .notRunning) ∧
    (s.HoldsClients → s.clientRefusal p r = some .held) := by
  constructor
  · rintro (h | h) <;> rw [State.clientRefusal, h] <;> rfl
  · rintro (h | h | h) <;> rw [State.clientRefusal, h] <;> rfl

/-- The checks after those of the scheduler state (R36). -/
theorem clientRefusal_of_admits {p : PortId} {r : RequestFields} (h : s.AdmitsClients) :
    s.clientRefusal p r =
      if (s.ports.get p).queue.any (fun q => q.tag == r.tag) then some .dupTag
      else if 8 ≤ (s.ports.get p).queue.length then some .queueFull
      else if 64 < r.firstBurst.val + r.length then some .rowSpan
      else none := by
  obtain h | h := h <;> rw [State.clientRefusal, h] <;> rfl

theorem any_tag_iff {l : List Record} {g : Fin 16} : l.any (fun q => q.tag == g) = true ↔ ¬∀ q ∈ l, q.tag ≠ g := by
  simp [List.any_eq_true]

section
variable {p : PortId} {r : RequestFields}

theorem clientRefusal_dupTag (h : s.AdmitsClients) (ht : ¬∀ q ∈ (s.ports.get p).queue, q.tag ≠ r.tag) :
    s.clientRefusal p r = some .dupTag := by
  rw [clientRefusal_of_admits h, if_pos (any_tag_iff.2 ht)]

theorem clientRefusal_of_free (h : s.AdmitsClients) (ht : ∀ q ∈ (s.ports.get p).queue, q.tag ≠ r.tag) :
    s.clientRefusal p r =
      if 8 ≤ (s.ports.get p).queue.length then some .queueFull
      else if 64 < r.firstBurst.val + r.length then some .rowSpan
      else none := by
  rw [clientRefusal_of_admits h, if_neg (mt any_tag_iff.1 (not_not.2 ht))]

theorem clientRefusal_congr (hm : t.mode = s.mode) (hq : (t.ports.get p).queue = (s.ports.get p).queue) :
    t.clientRefusal p r = s.clientRefusal p r := by
  unfold State.clientRefusal
  rw [hm, hq]

/-- The first message of a window, a REQUEST on an ENABLED port, refused by a check before the lookup. -/
theorem State.admitClient_refused (u : State) {reason : Reason} (h : (u.answered p []).clientRefusal p r = some reason) :
    (u.answered p []).admitClient p r = u.answered p [.refuse r.tag reason] := by
  unfold State.admitClient
  rw [h]
  exact State.answered_notify ..

/-- A refusal of the region checks is posted with the notice (R36, R153). -/
theorem State.answered_denied (hu : u.events = s.events) (o : Source) {reason : Reason} {d : Nat}
    (hd : deniedDetail (.port p) reason = d) :
    ((u.answered p []).postDenied (.port p) r.tag o reason).notify p (.refuse r.tag reason) =
      { u.answered p [.refuse r.tag reason] with events := (s.post .accessDenied o (some r.tag) d).events } := by
  rw [State.postDenied, State.post_of_events_eq (s := s) (t := u.answered p []) hu, hd]
  generalize (s.post .accessDenied o (some r.tag) d).events = events
  rw [← List.nil_append [Notice.refuse r.tag reason], ← State.answered_notify]
  rfl

/-- A REQUEST that every check lets through is filed at its port, and its ACCEPT is sent (R39). -/
theorem State.answered_filed (u : State) (i : Fin 16) :
    (u.answered p []).fileClient p r i = { u with
      ports := put u.ports p { u.ports.get p with
        messageTaken := true
        queue := (u.ports.get p).queue ++ [clientRecord p r i u.stamp]
        outbound := (u.ports.get p).outbound ++ [.accept r.tag] }
      stamp := u.stamp + 1
      regions := put u.regions i { u.regions.get i with refCount := (u.regions.get i).refCount + 1 } } := by
  simp only [State.fileClient, State.takeStamp, State.modRegion, State.notify, State.modPort, State.answered, get_put_self,
    put_put, List.append_nil]

end

end Sys2Proof.Machine

open Sys2Proof Sys2Proof.Machine

/-- Settles O45: no check refuses, and the covering entry grants. -/
theorem requestFiled : Obligations.RequestFiled := by
  intro s p frame r i u hr hm hs ht hframe hadmits hfree hroom hrow hd hcov hoff hpermit
  have hqueue : (u.ports.get p).queue = (s.ports.get p).queue := s.inWindow_queue _ p
  have hregions : u.regions = s.regions := s.inWindow_regions _
  have hstamp : u.stamp = s.stamp := s.inWindow_stamp _
  have hnone : (u.answered p []).clientRefusal p r = none := by
    rw [clientRefusal_congr (s := s) (t := u.answered p []) (s.inWindow_mode _) ((State.answered_queue p []).trans hqueue),
      clientRefusal_of_free hadmits hfree, if_neg (by omega), if_neg (by omega)]
  have hgranted : lookup (u.answered p []).regions (.port p) r.kind r.bank r.row = .granted i := by
    change lookup u.regions _ _ _ _ = _
    rw [hregions, lookup_of_covers hd hcov, if_neg hoff, if_pos hpermit]
  rw [exec_request hr, State.receive_of_first (enabled := true) hm hs ht, hframe, State.takeMessage,
    State.markTaken_eq_answered, if_pos rfl, State.admitClient, hnone, hgranted]
  dsimp only
  rw [State.answered_filed, ← hqueue, ← hregions, ← hstamp]
  rfl

/-- Settles O46: the checks in their order, each on the queue and the tables that the frame's window leaves as they
are. -/
theorem requestRefusedInOrder : Obligations.RequestRefusedInOrder := by
  intro s p frame r u hr hm ht hframe refused enabled freeTag room inRow
  have hqueue : ((u.answered p []).ports.get p).queue = (s.ports.get p).queue :=
    (State.answered_queue p []).trans (s.inWindow_queue _ p)
  have hevents : u.events = s.events := s.inWindow_events _
  have hcheck : (u.answered p []).clientRefusal p r = s.clientRefusal p r := clientRefusal_congr (s.inWindow_mode _) hqueue
  have hregions : (u.answered p []).regions = s.regions := s.inWindow_regions _
  have hexec : enabled → exec (.request p frame) s = .next ((u.answered p []).admitClient p r) := by
    intro hs
    rw [exec_request hr, State.receive_of_first (enabled := true) hm hs ht, hframe, State.takeMessage,
      State.markTaken_eq_answered, if_pos rfl]
  have hrefused : enabled → ∀ reason, s.clientRefusal p r = some reason → exec (.request p frame) s = .next (refused reason) := by
    intro hs reason h
    rw [hexec hs, State.admitClient_refused u (hcheck.trans h)]
  have hpassed : s.AdmitsClients → freeTag → room → inRow → (u.answered p []).clientRefusal p r = none := by
    intro hadmits hfree hroom hrow
    rw [hcheck, clientRefusal_of_free hadmits hfree, if_neg (not_le.2 hroom), if_neg (not_lt.2 hrow)]
  refine ⟨fun hs => ?_, fun hs h => ?_, fun hs h => ?_, fun hs h hfree => ?_, fun hs h hfree hroom => ?_,
    fun hs h hfree hroom hrow => ?_, fun hs h hfree hroom hrow hcov => ?_,
    fun i hs h hfree hroom hrow hd hcov => ⟨fun hoff => ?_, fun hoff hdeny => ?_⟩⟩
  · rw [exec_request hr, State.receive_of_first (enabled := false) hm hs ht, hframe, State.takeMessage,
      State.markTaken_eq_answered, if_neg (by decide), State.answered_notify]
    rfl
  · exact hrefused hs _ (schedRefusal_port.1 h)
  · exact hrefused hs _ (schedRefusal_port.2 h)
  · exact hrefused hs _ (clientRefusal_dupTag h hfree)
  · exact hrefused hs _ (by rw [clientRefusal_of_free h hfree, if_pos (not_lt.1 hroom)])
  · exact hrefused hs _ (by rw [clientRefusal_of_free h hfree, if_neg (not_le.2 hroom), if_pos (not_le.1 hrow)])
  · rw [hexec hs, State.admitClient, hpassed h hfree hroom hrow, hregions, lookup_of_uncovered hcov]
    dsimp only
    rw [State.answered_denied (s := s) hevents .none (d := p.val + 16) rfl]
  · rw [hexec hs, State.admitClient, hpassed h hfree hroom hrow, hregions, lookup_of_covers hd hcov, if_pos hoff]
    dsimp only
    rw [State.answered_denied (s := s) hevents (.region i) (d := p.val + 32) rfl]
  · rw [hexec hs, State.admitClient, hpassed h hfree hroom hrow, hregions, lookup_of_covers hd hcov, if_neg hoff, hdeny,
      if_neg (by decide)]
    dsimp only
    rw [State.answered_denied (s := s) hevents (.region i) (d := p.val + 48) rfl]
end

section
/-! PROOFS. The frames of the client link in both directions (10.8). -/

-- One proof after another: a thread for each would reserve more memory than the check allows.
set_option Elab.async false

namespace Sys2Proof.Machine

/-! ### Fields of bytes -/

theorem bits_or (x y hi lo : Nat) : bits (x ||| y) hi lo = bits x hi lo ||| bits y hi lo := by
  unfold bits
  rw [Nat.or_div_two_pow, Nat.or_mod_two_pow]

/-- What stands in the bits that a REQUEST leaves unused is in none of its fields. -/
theorem unused_request_bits :
    (∀ b : Byte, b &&& 0x7F#8 = 0#8 → bits b.toNat 3 0 = 0 ∧ bits b.toNat 4 4 = 0 ∧ bits b.toNat 6 5 = 0) ∧
    (∀ b : Byte, b &&& 0xF7#8 = 0#8 → bits b.toNat 2 0 = 0 ∧ bits b.toNat 7 4 = 0) ∧
    ∀ b : Byte, b &&& 0x3F#8 = 0#8 → bits b.toNat 5 0 = 0 := by
  decide

theorem unused_cancel_bits : ∀ b : Byte, b &&& 0x0F#8 = 0#8 → bits b.toNat 3 0 = 0 := by decide

theorem toNat_ofNat_of_lt {n : Nat} (h : n < 256) : (BitVec.ofNat 8 n).toNat = n := by
  rw [BitVec.toNat_ofNat]
  exact Nat.mod_eq_of_lt h

/-- The fields are read from their bits whatever stands in the unused ones (R174). -/
theorem requestOf_or {r : RequestFields} {c1 c2 c3 c4 b1 b3 b4 : Byte} (hl : 1 ≤ r.length) (hh : r.length ≤ 16)
    (h1 : c1.toNat = r.tag.val + 16 * (match r.kind with | .read => 0 | .write => 1) + 32 * r.bank.val)
    (h2 : c2.toNat = r.row.val % 256) (h3 : c3.toNat = r.row.val / 256 + 16 * (r.length - 1))
    (h4 : c4.toNat = r.firstBurst.val)
    (u1 : b1 &&& 0x7F#8 = 0#8) (u3 : b3 &&& 0xF7#8 = 0#8) (u4 : b4 &&& 0x3F#8 = 0#8) :
    requestOf (c1 ||| b1) c2 (c3 ||| b3) (c4 ||| b4) = r := by
  obtain ⟨hu1, hu3, hu4⟩ := unused_request_bits
  obtain ⟨htag, hkind, hbank⟩ := hu1 b1 u1
  obtain ⟨hrow, hlength⟩ := hu3 b3 u3
  have hfirst := hu4 b4 u4
  obtain ⟨kind, tag, bank, row, first, length⟩ := r
  dsimp only at hl hh h1 h2 h3 h4
  have := tag.isLt
  have := bank.isLt
  have := row.isLt
  have := first.isLt
  simp only [requestOf, BitVec.toNat_or, bits_or, htag, hkind, hbank, hrow, hlength, hfirst, Nat.or_zero,
    RequestFields.mk.injEq, Fin.ext_iff]
  unfold bits
  cases kind with
  | read =>
    dsimp only at h1
    refine ⟨if_neg (by omega), by omega, by omega, by omega, by omega, by omega⟩
  | write =>
    dsimp only at h1
    refine ⟨if_pos (by omega), by omega, by omega, by omega, by omega, by omega⟩

theorem parseFrame_request (c1 c2 c3 c4 : Byte) (more : List Byte) :
    parseFrame ([0x01#8, c1, c2, c3, c4] ++ more) = .request (requestOf c1 c2 c3 c4) := rfl

end Sys2Proof.Machine

open Sys2Proof Sys2Proof.Machine

/-- Settles O49: every field stands in its own bits of its byte. -/
theorem inboundFramesRoundTrip : Obligations.InboundFramesRoundTrip := by
  refine ⟨fun r b1 b3 b4 more hl hh u1 u3 u4 => ?_, fun tag b1 more u1 => ?_, fun code more h1 h2 => ?_, rfl, rfl,
    fun more hshort => ?_, fun tag => ?_, fun tag reason hreason => ?_, fun tag index hi => ?_,
    fun tag status bursts preempted hb => ?_⟩
  · have htag := r.tag.isLt
    have hbank := r.bank.isLt
    have hrow := r.row.isLt
    have hfirst := r.firstBurst.isLt
    have h1 : (BitVec.ofNat 8 (r.tag.val + (if r.kind = .write then 16 else 0) + r.bank.val * 32)).toNat =
        r.tag.val + 16 * (match r.kind with | .read => 0 | .write => 1) + 32 * r.bank.val := by
      rw [toNat_ofNat_of_lt (by split <;> omega)]
      cases r.kind <;> simp only [reduceCtorEq, if_false, if_true] <;> omega
    have h2 : (BitVec.ofNat 8 (r.row.val % 256)).toNat = r.row.val % 256 := toNat_ofNat_of_lt (by omega)
    have h3 : (BitVec.ofNat 8 (r.row.val / 256 + (r.length - 1) * 16)).toNat = r.row.val / 256 + 16 * (r.length - 1) := by
      rw [toNat_ofNat_of_lt (by omega)]
      omega
    have h4 : (BitVec.ofNat 8 r.firstBurst.val).toNat = r.firstBurst.val := toNat_ofNat_of_lt (by omega)
    refine ⟨_, _, _, _, rfl, h1, h2, h3, h4, ?_⟩
    rw [parseFrame_request, requestOf_or hl hh h1 h2 h3 h4 u1 u3 u4]
  · have htag := tag.isLt
    have h1 : (BitVec.ofNat 8 tag.val).toNat = tag.val := toNat_ofNat_of_lt (by omega)
    refine ⟨_, rfl, h1, ?_⟩
    change Frame.cancel ⟨bits (BitVec.ofNat 8 tag.val ||| b1).toNat 3 0, _⟩ = _
    refine congrArg Frame.cancel (Fin.ext ?_)
    change bits (BitVec.ofNat 8 tag.val ||| b1).toNat 3 0 = tag.val
    rw [BitVec.toNat_or, bits_or, unused_cancel_bits b1 u1, h1, Nat.or_zero]
    unfold bits
    omega
  · exact (if_neg h1).trans (if_neg h2)
  · match more, hshort with
    | [], _ => rfl
    | [_], _ => rfl
    | [_, _], _ => rfl
    | [_, _, _], _ => rfl
  · exact ⟨_, rfl, by rw [toNat_ofNat_of_lt (by omega)]; omega⟩
  · have hcode : 1 ≤ reason.code ∧ reason.code ≤ 9 ∧
        [Reason.portDisabled, .notRunning, .held, .dupTag, .queueFull, .rowSpan, .noRegion, .parked, .denied][reason.code - 1]? =
          some reason := by
      cases reason with
      | flushed => exact absurd rfl hreason
      | _ => decide
    obtain ⟨hlow, hhigh, hname⟩ := hcode
    refine ⟨_, reason.code - 1, rfl, hname, ?_⟩
    rw [toNat_ofNat_of_lt (by omega)]
    omega
  · refine ⟨_, rfl, ?_⟩
    rw [toNat_ofNat_of_lt (by omega)]
    omega
  · have hcode : status.code ≤ 3 ∧ [FinishStatus.ok, .cancelled, .flushed, .stalled][status.code]? = some status := by
      cases status <;> decide
    obtain ⟨hhigh, hname⟩ := hcode
    refine ⟨_, _, status.code, rfl, hname, ?_, ?_, ?_, ?_⟩
    · rw [toNat_ofNat_of_lt (by split <;> omega)]
      split <;> omega
    · rw [toNat_ofNat_of_lt (by split <;> omega)]
      split <;> omega
    · rw [BitVec.getLsbD_ofNat, Nat.testBit_eq_decide_div_mod_eq]
      cases preempted
      · simp only [Bool.false_eq_true, if_false, Nat.add_zero]
        exact decide_eq_false (by omega)
      · simp only [if_true]
        exact decide_eq_true (by omega)
    · rw [toNat_ofNat_of_lt (by omega)]
      omega
end

section
/-! PROOFS. What the registers show, and what a commit reads from the stage (10.2, 10.4, 10.5). -/

-- One proof after another: a thread for each would reserve more memory than the check allows.
set_option Elab.async false

namespace Sys2Proof.Machine

variable {s t u : State}

theorem toNat_word {n : Nat} (h : n < 65536) : (BitVec.ofNat 16 n).toNat = n := by
  rw [BitVec.toNat_ofNat]
  exact Nat.mod_eq_of_lt h

theorem toList_getElem?_get {α : Type} {n : Nat} (v : Vector α n) {j : Nat} {i : Fin n} (h : j = i.val) :
    v.toList[j]? = some (v.get i) := by
  subst h
  rw [List.getElem?_eq_getElem (by simp)]
  simp [Vector.get_eq_getElem]

/-! ### The stage -/

theorem stagedRegion_fields (stage : Vector Word 3) :
    (stagedRegion stage).firstGroup = (stage.get 0).toNat % 256 ∧
    (stagedRegion stage).groupCount = (stage.get 0).toNat / 256 ∧
    (stagedRegion stage).readPermit.toNat = (stage.get 1).toNat % 32 ∧
    (stagedRegion stage).writePermit.toNat = (stage.get 1).toNat / 256 % 32 ∧
    (stagedRegion stage).bank.val = (stage.get 2).toNat % 4 ∧
    (stagedRegion stage).clsCode = (stage.get 2).toNat / 4 % 4 ∧
    ((stagedRegion stage).enabled = true ↔ 32768 ≤ (stage.get 2).toNat) := by
  have h0 := (stage.get 0).isLt
  have h2 := (stage.get 2).isLt
  simp only [stagedRegion, bits, BitVec.toNat_ofNat, beq_iff_eq]
  refine ⟨by omega, by omega, by omega, by omega, by omega, by omega, by omega⟩

theorem stagedRemap_fields (stage : Vector Word 3) :
    (stagedRemap stage).faultyRow = (stage.get 0).toNat % 4096 ∧ (stagedRemap stage).spare.val = (stage.get 1).toNat % 16 ∧
    (stagedRemap stage).bank.val = (stage.get 1).toNat / 256 % 4 ∧
    ((stagedRemap stage).valid = true ↔ 32768 ≤ (stage.get 2).toNat) := by
  have h2 := (stage.get 2).isLt
  simp only [stagedRemap, bits, beq_iff_eq]
  refine ⟨by omega, by omega, by omega, by omega⟩

/-- What the three table data words show of a region entry (R168). -/
theorem Region.words_toNat (e : Region) :
    (e.firstGroup ≤ 127 → e.groupCount ≤ 128 → (e.words.get 0).toNat = e.firstGroup + 256 * e.groupCount) ∧
    (e.words.get 1).toNat = e.readPermit.toNat + 256 * e.writePermit.toNat ∧
    (e.refCount ≤ 36 → (e.words.get 2).toNat =
      e.bank.val + 4 * (match e.cls with | .retain => 0 | .half => 1 | .off => 2) + 256 * e.refCount +
        (if e.enabled then 32768 else 0)) := by
  have hread := e.readPermit.isLt
  have hwrite := e.writePermit.isLt
  refine ⟨fun h1 h2 => ?_, ?_, fun h => ?_⟩
  · exact (toNat_word (by omega)).trans (by omega)
  · exact (toNat_word (by omega)).trans (by omega)
  · have hcls : e.cls.code = (match e.cls with | .retain => 0 | .half => 1 | .off => 2) ∧ e.cls.code ≤ 2 := by
      cases e.cls <;> decide
    obtain ⟨hcode, hle⟩ := hcls
    rw [← hcode]
    exact (toNat_word (by split <;> omega)).trans (by omega)

theorem RemapEntry.words_toNat (e : RemapEntry) :
    (e.words.get 0).toNat = e.faultyRow.val ∧ (e.words.get 1).toNat = e.spare.val + 256 * e.bank.val ∧
    (e.words.get 2).toNat = if e.valid then 32768 else 0 := by
  have hrow := e.faultyRow.isLt
  refine ⟨toNat_word (by omega), (toNat_word (by omega)).trans (by omega), ?_⟩
  change (if e.valid then 0x8000#16 else 0).toNat = _
  cases e.valid <;> rfl

theorem stagedRegion_words {e : Region} (hf : e.firstGroup ≤ 127) (hg : e.groupCount ≤ 128) (hc : e.refCount ≤ 36) :
    stagedRegion e.words =
      { enabled := e.enabled, bank := e.bank, firstGroup := e.firstGroup, groupCount := e.groupCount,
        readPermit := e.readPermit, writePermit := e.writePermit, clsCode := e.cls.code } := by
  obtain ⟨h0, h1, h2⟩ := e.words_toNat
  have h0 := h0 hf hg
  have h2 := h2 hc
  obtain ⟨first, count, readP, writeP, bank, cls, enabled⟩ := stagedRegion_fields e.words
  have hread := e.readPermit.isLt
  have hwrite := e.writePermit.isLt
  have hcode : e.cls.code = (match e.cls with | .retain => 0 | .half => 1 | .off => 2) ∧ e.cls.code ≤ 2 := by
    cases e.cls <;> decide
  obtain ⟨hcode, hle⟩ := hcode
  rw [← hcode] at h2
  have hen : (stagedRegion e.words).enabled = e.enabled := by
    rw [Bool.eq_iff_iff, enabled, h2]
    cases e.enabled
    · simp only [Bool.false_eq_true, if_false, iff_false]
      omega
    · simp only [if_true, iff_true]
      omega
  have hbank : (stagedRegion e.words).bank = e.bank := Fin.ext (by rw [bank, h2]; split <;> omega)
  have hclass : (stagedRegion e.words).clsCode = e.cls.code := by rw [cls, h2]; split <;> omega
  have hreadP : (stagedRegion e.words).readPermit = e.readPermit := BitVec.eq_of_toNat_eq (by rw [readP, h1]; omega)
  have hwriteP : (stagedRegion e.words).writePermit = e.writePermit := BitVec.eq_of_toNat_eq (by rw [writeP, h1]; omega)
  have hfirst : (stagedRegion e.words).firstGroup = e.firstGroup := by rw [first, h0]; omega
  have hcount : (stagedRegion e.words).groupCount = e.groupCount := by rw [count, h0]; omega
  rw [← hen, ← hbank, ← hclass, ← hreadP, ← hwriteP, ← hfirst, ← hcount]

theorem stagedRemap_words (e : RemapEntry) :
    stagedRemap e.words = { valid := e.valid, bank := e.bank, faultyRow := e.faultyRow.val, spare := e.spare } := by
  obtain ⟨h0, h1, h2⟩ := e.words_toNat
  obtain ⟨row, spare, bank, valid⟩ := stagedRemap_fields e.words
  have hrow := e.faultyRow.isLt
  have hv : (stagedRemap e.words).valid = e.valid := by
    rw [Bool.eq_iff_iff, valid, h2]
    cases e.valid <;> simp
  have hbank : (stagedRemap e.words).bank = e.bank := Fin.ext (by rw [bank, h1]; omega)
  have hspare : (stagedRemap e.words).spare = e.spare := Fin.ext (by rw [spare, h1]; omega)
  have hfaulty : (stagedRemap e.words).faultyRow = e.faultyRow.val := by rw [row, h0]; omega
  rw [← hv, ← hbank, ← hspare, ← hfaulty]

/-! ### The table data words -/

theorem Page.field_of_ge {p : Page} {i : Nat} (h : 30 ≤ i) : p.field i = 0 := by
  obtain ⟨j, rfl⟩ : ∃ j, i = j + 14 := ⟨i - 14, by omega⟩
  change ((p.wheel.toList[j]?).map Owner.code).getD 0 = 0
  rw [List.getElem?_eq_none (by simp; omega)]
  rfl

namespace State

theorem tableWords_region {i : Fin 16} (hs : s.host.tableSelect = 0) (hi : s.host.tableIndex.toNat = i.val) :
    s.tableWords = (s.regions.get i).words := by
  unfold tableWords
  rw [hs]
  change ((s.regions.toList[s.host.tableIndex.toNat]?).map Region.words).getD _ = _
  rw [toList_getElem?_get s.regions hi]
  rfl

theorem tableWords_remap {i : Fin 8} (hs : s.host.tableSelect = 1) (hi : s.host.tableIndex.toNat = i.val) :
    s.tableWords = (s.remap.get i).words := by
  unfold tableWords
  rw [hs]
  change ((s.remap.toList[s.host.tableIndex.toNat]?).map RemapEntry.words).getD _ = _
  rw [toList_getElem?_get s.remap hi]
  rfl

/-- The page that table select 2 or 3 names (R166). -/
def shownPage (s : State) : Page :=
  s.mode.pages.get (if s.host.tableSelect.toNat = 2 then s.mode.runSelect + 1 else s.mode.runSelect)

theorem tableWords_page (hs : 2 ≤ s.host.tableSelect.toNat) :
    s.tableWords = #v[BitVec.ofNat 16 (s.shownPage.field s.host.tableIndex.toNat), 0, 0] := by
  have hlt := s.host.tableSelect.isLt
  unfold tableWords shownPage
  obtain h | h : s.host.tableSelect.toNat = 2 ∨ s.host.tableSelect.toNat = 3 := by omega
  · rw [h]; rfl
  · rw [h]; rfl

/-- The number of objects behind a table select (R166). -/
def tableSize (s : State) : Nat := if s.host.tableSelect = 0 then 16 else if s.host.tableSelect = 1 then 8 else 30

theorem tableWords_beyond (h : s.tableSize ≤ s.host.tableIndex.toNat) (k : Fin 3) : s.tableWords.get k = 0 := by
  unfold tableSize at h
  split at h
  next hs =>
    unfold tableWords
    rw [hs]
    change (((s.regions.toList[s.host.tableIndex.toNat]?).map Region.words).getD _).get k = 0
    rw [List.getElem?_eq_none (by simpa using h)]
    exact get_replicate ..
  next h0 =>
    split at h
    next hs =>
      unfold tableWords
      rw [hs]
      change (((s.remap.toList[s.host.tableIndex.toNat]?).map RemapEntry.words).getD _).get k = 0
      rw [List.getElem?_eq_none (by simpa using h)]
      exact get_replicate ..
    next h1 =>
      have hselect : 2 ≤ s.host.tableSelect.toNat := by
        have hne0 : s.host.tableSelect.toNat ≠ 0 := fun hz => h0 (BitVec.eq_of_toNat_eq hz)
        have hne1 : s.host.tableSelect.toNat ≠ 1 := fun hz => h1 (BitVec.eq_of_toNat_eq hz)
        omega
      rw [tableWords_page hselect, Page.field_of_ge h]
      fin_cases k <;> rfl

/-! ### The registers -/

theorem hostRead_slot (h : s.Released) (n : SlotId) :
    s.hostRead (BitVec.ofNat 5 (0x10 + 4 * n.val)) = BitVec.ofNat 16 (s.host.slots.get n).addrHigh.toNat ∧
    s.hostRead (BitVec.ofNat 5 (0x11 + 4 * n.val)) = (s.host.slots.get n).addrLow ∧
    s.hostRead (BitVec.ofNat 5 (0x12 + 4 * n.val)) = (s.host.slots.get n).data ∧
    s.hostRead (BitVec.ofNat 5 (0x13 + 4 * n.val)) = (s.host.slots.get n).status := by
  have hr : s.resetAsserted = false := h
  unfold hostRead
  rw [hr]
  fin_cases n <;> exact ⟨rfl, rfl, rfl, rfl⟩

theorem commandShown (hd : s.host.detail ≤ 7) : ∃ code,
    [Result.ok, .busy, .wrongState, .pageInvalid, .badValue, .overlap, .regionBusy, .notHeld, .duplicate, .spareInUse,
      .rowOpen, .nothing][code]? = some s.host.result ∧
    (BitVec.ofNat 16 (s.host.result.code + s.host.detail * 16)).toNat = code + 16 * s.host.detail := by
  have hcode : s.host.result.code ≤ 11 ∧
      [Result.ok, .busy, .wrongState, .pageInvalid, .badValue, .overlap, .regionBusy, .notHeld, .duplicate, .spareInUse,
        .rowOpen, .nothing][s.host.result.code]? = some s.host.result := by
    cases s.host.result <;> decide
  obtain ⟨hle, hname⟩ := hcode
  exact ⟨_, hname, (toNat_word (by omega)).trans (by omega)⟩

theorem schedStatus_toNat : s.schedStatus.toNat =
    (match s.mode.sched with
      | .stopped => 0
      | .init => 1
      | .run => 2
      | .drainHold => 3
      | .drainSwitch .run => 4 + 256
      | .drainSwitch .held => 4 + 256 + 512
      | .held => 5) + 16 * s.mode.runSelect.val := by
  have := s.mode.runSelect.isLt
  unfold schedStatus SchedState.code
  cases s.mode.sched with
  | drainSwitch ret => cases ret <;> exact (toNat_word (by dsimp only; omega)).trans (by dsimp only; omega)
  | _ => exact (toNat_word (by dsimp only; omega)).trans (by dsimp only; omega)

theorem portStatus_toNat (hq : (s.ports.get s.host.portSelect).queue.length ≤ 8) : s.portStatus.toNat =
    s.host.portSelect.val + (if (s.ports.get s.host.portSelect).enabled then 4 else 0) +
      (if (s.ports.get s.host.portSelect).prst then 8 * 2 else if (s.ports.get s.host.portSelect).enabled then 8 * 1 else 0) +
      (if (s.ports.get s.host.portSelect).ready then 32 else 0) +
      (if (s.ports.get s.host.portSelect).prst then 64 else 0) + 256 * (s.ports.get s.host.portSelect).queue.length := by
  unfold portStatus
  generalize s.ports.get s.host.portSelect = k at hq ⊢
  have hstate : k.state.code * 8 = if k.prst then 8 * 2 else if k.enabled then 8 * 1 else 0 := by
    unfold Port.state
    cases k.prst <;> cases k.enabled <;> rfl
  dsimp only
  rw [hstate, Nat.mul_comm k.queue.length]
  refine toNat_word ?_
  split <;> split <;> split <;> omega

theorem slotBits_eq : s.slotBits =
    (if (s.host.slots.get 0).complete then 1 else 0) + ((if (s.host.slots.get 1).complete then 2 else 0) +
      ((if (s.host.slots.get 2).complete then 4 else 0) + (if (s.host.slots.get 3).complete then 8 else 0))) := rfl

theorem intStatus_toNat :
    let finished (k : SlotId) : Nat :=
      match (s.host.slots.get k).state with
      | .done => 1
      | .failed _ => 1
      | _ => 0
    s.intStatus.toNat = s.host.slotEnables.toNat + 16 * finished 0 + 32 * finished 1 + 64 * finished 2 + 128 * finished 3 +
      (if s.events.records = [] then 0 else 256) + (if s.int then 32768 else 0) := by
  intro finished
  have hfinished : ∀ k w, (if (s.host.slots.get k).complete then w else 0) = w * finished k := by
    intro k w
    unfold Slot.complete finished
    cases (s.host.slots.get k).state <;> simp
  have hle : ∀ k, finished k ≤ 1 := by
    intro k
    unfold finished
    split <;> decide
  have hevents : (if s.eventsPresent then 256 else 0) = if s.events.records = [] then 0 else 256 := by
    unfold eventsPresent
    cases s.events.records <;> rfl
  have hen := s.host.slotEnables.isLt
  have h0 := hle 0
  have h1 := hle 1
  have h2 := hle 2
  have h3 := hle 3
  unfold intStatus
  rw [slotBits_eq, hfinished, hfinished, hfinished, hfinished, hevents]
  refine (toNat_word ?_).trans (by omega)
  split <;> split <;> omega

end State

/-! ### The oldest event record -/

theorem Event.report_words {kind : EventKind} {source : Source} {tag : Option (Fin 16)} {detail : Nat} (hd : detail ≤ 255) :
    (∃ code,
      [EventKind.initDone, .holdDone, .switchDone, .refreshOverrun, .preempt, .accessDenied, .stallAbort,
        .protocolError][code]? = some kind ∧
      (Event.report kind source tag detail).word0.toNat = code + 1 +
        (match source with
          | .none => 0
          | .port p => 16 * 1 + 256 * p.val
          | .bank b => 16 * 2 + 256 * b.val
          | .region r => 16 * 3 + 256 * r.val)) ∧
    (Event.report kind source tag detail).word1.toNat =
      detail + (match tag with | some t => 256 * t.val + 32768 | none => 0) := by
  have hcode : 1 ≤ kind.code ∧ kind.code ≤ 8 ∧
      [EventKind.initDone, .holdDone, .switchDone, .refreshOverrun, .preempt, .accessDenied, .stallAbort,
        .protocolError][kind.code - 1]? = some kind := by
    cases kind <;> decide
  obtain ⟨hlow, hhigh, hname⟩ := hcode
  refine ⟨⟨_, hname, ?_⟩, ?_⟩
  · unfold Event.word0 Source.typeCode Source.index
    cases source <;> exact (toNat_word (by dsimp only; omega)).trans (by dsimp only; omega)
  · unfold Event.word1
    cases tag with
    | none => exact toNat_word (by dsimp only; omega)
    | some tag => exact (toNat_word (by dsimp only; omega)).trans (by dsimp only; omega)

/-! ### The views of a bank and the slots -/

theorem shownRow_some {row : Nat} (h : row ≤ 2063) : (shownRow (some row)).toNat = row + 32768 := toNat_word (by omega)

theorem State.bankStatus_view0 (hview : s.host.view = 0) (hp : (s.banks.get s.host.bankSelect).pins ≤ 16)
    (hl : -4 ≤ (s.account s.host.bankSelect).debt) (hh : (s.account s.host.bankSelect).debt ≤ 8) :
    (s.bankStatus.toNat : Int) =
      (match (s.banks.get s.host.bankSelect).state with
        | .closed => 0
        | .opening _ _ _ => 1
        | .opened _ _ => 2
        | .closing _ => 3
        | .refreshing _ => 4) + (if (s.banks.get s.host.bankSelect).closePending then 8 else 0) +
        16 * (s.banks.get s.host.bankSelect).pins + 4096 * ((s.account s.host.bankSelect).debt + 4) := by
  unfold State.bankStatus
  rw [hview]
  generalize s.banks.get s.host.bankSelect = k at hp ⊢
  generalize s.account s.host.bankSelect = a at hl hh ⊢
  change ((BitVec.ofNat 16 (k.state.code + (if k.closePending then 8 else 0) + k.pins * 16 + (a.debt + 4).toNat * 4096)).toNat :
    Int) = _
  have hdebt : ((a.debt + 4).toNat : Int) = a.debt + 4 := Int.toNat_of_nonneg (by omega)
  have hcode : k.state.code ≤ 4 ∧ (k.state.code : Int) =
      (match k.state with
        | .closed => 0
        | .opening _ _ _ => 1
        | .opened _ _ => 2
        | .closing _ => 3
        | .refreshing _ => 4) := by
    cases k.state <;> exact ⟨Nat.le_of_ble_eq_true rfl, rfl⟩
  obtain ⟨hle, hcode⟩ := hcode
  rw [← hcode, toNat_word (by split <;> omega)]
  cases k.closePending
  · simp only [Bool.false_eq_true, if_false]
    omega
  · simp only [if_true]
    omega

theorem Slot.status_toNat (k : Slot) :
    (k.state = .free → k.status.toNat = 0 + if k.kind = .write then 4 else 0) ∧
    (k.state = .queued → k.status.toNat = 1 + if k.kind = .write then 4 else 0) ∧
    (k.state = .done → k.status.toNat = 2 + if k.kind = .write then 4 else 0) ∧
    ∀ reason, k.state = .failed reason → ∃ code,
      [Reason.portDisabled, .notRunning, .held, .dupTag, .queueFull, .rowSpan, .noRegion, .parked, .denied,
        .flushed][code]? = some reason ∧
      k.status.toNat = 3 + (if k.kind = .write then 4 else 0) + 16 * (code + 1) := by
  have hkind : kindCode k.kind * 4 = if k.kind = .write then 4 else 0 := by cases k.kind <;> rfl
  unfold Slot.status
  rw [hkind]
  refine ⟨fun h => ?_, fun h => ?_, fun h => ?_, fun reason h => ?_⟩
  · rw [h]
    exact toNat_word (by dsimp only [SlotState.code]; split <;> omega)
  · rw [h]
    exact toNat_word (by dsimp only [SlotState.code]; split <;> omega)
  · rw [h]
    exact toNat_word (by dsimp only [SlotState.code]; split <;> omega)
  · rw [h]
    have hcode : 1 ≤ reason.code ∧ reason.code ≤ 10 ∧
        [Reason.portDisabled, .notRunning, .held, .dupTag, .queueFull, .rowSpan, .noRegion, .parked, .denied,
          .flushed][reason.code - 1]? = some reason := by
      cases reason <;> decide
    obtain ⟨hlow, hhigh, hname⟩ := hcode
    refine ⟨_, hname, (toNat_word (by dsimp only [SlotState.code]; split <;> omega)).trans ?_⟩
    dsimp only [SlotState.code]
    split <;> omega

namespace State

/-- The registers below the slots' out of reset (R163). -/
structure Reads (s : State) : Prop where
  command : s.hostRead 0x00 = BitVec.ofNat 16 (s.host.result.code + s.host.detail * 16)
  sched : s.hostRead 0x01 = s.schedStatus
  port : s.hostRead 0x02 = s.portStatus
  interrupt : s.hostRead 0x03 = s.intStatus
  mask : s.hostRead 0x04 = BitVec.ofNat 16 s.events.mask.toNat
  events : s.hostRead 0x05 = BitVec.ofNat 16 s.events.records.length
  head0 : s.hostRead 0x06 = s.eventHead Event.word0
  head1 : s.hostRead 0x07 = s.eventHead Event.word1
  head2 : s.hostRead 0x08 = s.eventHead Event.word2
  select : s.hostRead 0x09 = BitVec.ofNat 16 s.host.tableSelect.toNat
  index : s.hostRead 0x0A = BitVec.ofNat 16 s.host.tableIndex.toNat
  data0 : s.hostRead 0x0B = s.tableWords.get 0
  data1 : s.hostRead 0x0C = s.tableWords.get 1
  data2 : s.hostRead 0x0D = s.tableWords.get 2
  bank : s.hostRead 0x0E = s.bankStatus
  credit : s.hostRead 0x0F = BitVec.ofNat 16 s.credit.count

theorem reads (h : s.Released) : s.Reads := by
  have hr : s.resetAsserted = false := h
  constructor <;> (unfold hostRead; rw [hr]; rfl)

theorem eventHead_nil {w : Event → Word} (h : s.events.records = []) : s.eventHead w = 0 := by
  rw [eventHead, h]
  rfl

theorem eventHead_cons {w : Event → Word} {e : Event} {rest : List Event} (h : s.events.records = e :: rest) :
    s.eventHead w = w e := by
  rw [eventHead, h]
  rfl

end State

end Sys2Proof.Machine

open Sys2Proof Sys2Proof.Machine

/-- Settles O27, register by register, from what each word of a layout carries. -/
theorem tableWordsRoundTrip : Obligations.TableWordsRoundTrip := by
  refine ⟨fun stage => ⟨stagedRegion_fields stage, stagedRemap_fields stage⟩,
    fun e hf hg hc => ⟨stagedRegion_words hf hg hc, RefreshClass.ofCode_code e.cls⟩, stagedRemap_words, fun s hr => ?_⟩
  have r := State.reads hr
  dsimp only
  rw [r.command, r.sched, r.port, r.interrupt, r.mask, r.events, r.head0, r.head1, r.head2, r.select, r.index, r.data0, r.data1,
    r.data2, r.bank, r.credit]
  have hmask := s.events.mask.isLt
  have hselect := s.host.tableSelect.isLt
  have hindex := s.host.tableIndex.isLt
  refine ⟨State.commandShown, State.schedStatus_toNat, State.portStatus_toNat, State.intStatus_toNat, toNat_word (by omega),
    fun h => toNat_word (by omega), fun h => ?_, fun kind source tag detail rest h hd => ?_, fun n rest h hn => ?_,
    toNat_word (by omega), toNat_word (by omega), fun i hs hi => ?_, fun i hs hi => ?_, fun hs hi hv => ?_, fun h => ?_,
    ⟨State.bankStatus_view0, fun hview => ⟨fun row hrow => ?_, fun hrow => ?_⟩,
      fun hview => ⟨fun row hrow hle => ?_, fun hrow => ?_⟩, fun hview hp => ?_⟩, fun h => toNat_word (by omega), fun n => ?_⟩
  · simp only [State.eventHead_nil h]
    exact ⟨rfl, rfl, rfl⟩
  · simp only [State.eventHead_cons h]
    obtain ⟨⟨code, hname, hword0⟩, hword1⟩ := Event.report_words (kind := kind) (source := source) (tag := tag) hd
    exact ⟨code, hname, hword0, hword1, rfl⟩
  · simp only [State.eventHead_cons h]
    exact ⟨rfl, rfl, toNat_word (by omega)⟩
  · rw [State.tableWords_region hs hi]
    exact ⟨⟨rfl, rfl, rfl⟩, (s.regions.get i).words_toNat⟩
  · rw [State.tableWords_remap hs hi]
    exact ⟨⟨rfl, rfl, rfl⟩, (s.remap.get i).words_toNat⟩
  · rw [State.tableWords_page hs]
    exact ⟨toNat_word (Nat.lt_succ_of_le hv), rfl, rfl⟩
  · simp only [State.tableWords_beyond (s := s) h]
    exact ⟨rfl, rfl, rfl⟩
  · have hlt := row.isLt
    rw [State.bankStatus, hview]
    change (shownRow ((s.banks.get s.host.bankSelect).openRow?.map Fin.val)).toNat = _
    rw [hrow]
    exact shownRow_some (by omega)
  · rw [State.bankStatus, hview]
    change (shownRow ((s.banks.get s.host.bankSelect).openRow?.map Fin.val)).toNat = _
    rw [hrow]
    rfl
  · rw [State.bankStatus, hview]
    change (shownRow (s.banks.get s.host.bankSelect).physRow?).toNat = _
    rw [hrow]
    exact shownRow_some hle
  · rw [State.bankStatus, hview]
    change (shownRow (s.banks.get s.host.bankSelect).physRow?).toNat = _
    rw [hrow]
    rfl
  · rw [State.bankStatus, hview]
    exact toNat_word (by omega)
  · obtain ⟨h0, h1, h2, h3⟩ := State.hostRead_slot hr n
    have hhigh := (s.host.slots.get n).addrHigh.isLt
    rw [h0, h1, h2, h3]
    exact ⟨toNat_word (by omega), rfl, rfl, (s.host.slots.get n).status_toNat⟩

end

section
/-! PROOFS. The passing of a window at the timers: what runs out in it, the refill and the interval, and the counts
(5.2, 6.3, 7.2). -/

-- One proof after another: a thread for each would reserve more memory than the check allows.
set_option Elab.async false

namespace Sys2Proof.Machine

variable {s t u : State}

/-! ### The timers of one bank -/

/-- A timer with no window left has run out (R72). -/
def timerOut (t : Option Nat) : Option Nat := if t = some 0 then none else t

theorem timerOut_tick (t : Option Nat) : (timerOut t).map (· - 1) = timerPassed t := by
  match t with
  | none => rfl
  | some 0 => rfl
  | some (n + 1) => rfl

/-- What runs out at a bank in a window (R72, R75 to R77). -/
def Bank.runOut (k : Bank) : Bank :=
  { k with
    state :=
      match k.state with
      | .opening row phys 0 => .opened row phys
      | .closing 0 => .closed
      | .refreshing 0 => .closed
      | st => st
    rowMin := timerOut k.rowMin
    writeRecovery := timerOut k.writeRecovery }

/-- A bank after a window that carries no command to it (R72). -/
def Bank.pass (k : Bank) : Bank := k.runOut.tick

theorem Bank.pass_rowMin (k : Bank) : k.pass.rowMin = timerPassed k.rowMin := timerOut_tick _

theorem Bank.pass_writeRecovery (k : Bank) : k.pass.writeRecovery = timerPassed k.writeRecovery := timerOut_tick _

theorem Bank.pass_state (k : Bank) :
    (∀ row phys n, k.state = .opening row phys (n + 1) → k.pass.state = .opening row phys n) ∧
    (∀ row phys, k.state = .opening row phys 0 → k.pass.state = .opened row phys) ∧
    (∀ n, k.state = .closing (n + 1) → k.pass.state = .closing n) ∧
    (∀ n, k.state = .refreshing (n + 1) → k.pass.state = .refreshing n) ∧
    (k.state = .closing 0 ∨ k.state = .refreshing 0 → k.pass.state = .closed) ∧
    ∀ row phys, k.state = .closed ∨ k.state = .opened row phys → k.pass.state = k.state := by
  unfold Bank.pass Bank.runOut Bank.tick
  dsimp only
  refine ⟨fun row phys n h => ?_, fun row phys h => ?_, fun n h => ?_, fun n h => ?_, ?_, fun row phys => ?_⟩
  · simp only [h, Nat.add_sub_cancel]
  · simp only [h]
  · simp only [h, Nat.add_sub_cancel]
  · simp only [h, Nat.add_sub_cancel]
  · rintro (h | h) <;> simp only [h]
  · rintro (h | h) <;> simp only [h]

theorem Bank.pass_openRow? (k : Bank) : k.pass.openRow? = k.openRow? := by
  unfold Bank.openRow? Bank.pass Bank.runOut Bank.tick
  dsimp only
  match k.state with
  | .opening _ _ 0 => rfl
  | .opening _ _ (_ + 1) => rfl
  | .closing 0 => rfl
  | .closing (_ + 1) => rfl
  | .refreshing 0 => rfl
  | .refreshing (_ + 1) => rfl
  | .closed => rfl
  | .opened _ _ => rfl

/-! ### What runs out in a window -/

namespace State

theorem modBank_of_fixed {b : BankId} {f : Bank → Bank} (h : f (s.banks.get b) = s.banks.get b) : s.modBank b f = s := by
  unfold modBank
  rw [h, put_get_self]

theorem modBank_modBank (b : BankId) (f g : Bank → Bank) : (s.modBank b f).modBank b g = s.modBank b (g ∘ f) := by
  unfold modBank
  simp only [get_put_self, put_put, Function.comp]

/-- The window is the last of conditioning: the 32nd refresh runs out in it (R128). -/
def EndsConditioning (s : State) : Prop := s.refresh.conditioning = .trailing ∧ (s.banks.get 3).state = .refreshing 0

theorem modBank_congr {b : BankId} {f g : Bank → Bank} (h : f (s.banks.get b) = g (s.banks.get b)) :
    s.modBank b f = s.modBank b g := by
  unfold modBank
  rw [h]

/-- The end of conditioning as one change (R127, R128). -/
theorem endConditioning_eq : s.endConditioning = { s with
    refresh := .powerOn
    dram := []
    history := .powerOn
    mode := { s.mode with sched := .run }
    events := (s.post .initDone .none none 0).events } := by
  unfold endConditioning
  dsimp only
  rw [post_eq]
  congr 1
  refine post_events_congr (s := s) ?_ _ _ _ _
  exact setSched_events ..

theorem endConditioning_modBank (b : BankId) (f : Bank → Bank) :
    s.endConditioning.modBank b f = (s.modBank b f).endConditioning := by
  rw [endConditioning_eq, endConditioning_eq, post_events_congr (s := s) (t := s.modBank b f) rfl]
  rfl

theorem rowMinExpiry_modBank (b : BankId) : s.rowMinExpiry b = s.modBank b fun k => { k with rowMin := timerOut k.rowMin } := by
  rw [rowMinExpiry_eq]
  split
  next h => exact modBank_congr (by simp only [timerOut, h, if_true])
  next h => exact (modBank_of_fixed (by simp only [timerOut, h, if_false])).symm

theorem writeRecoveryExpiry_modBank (b : BankId) :
    s.writeRecoveryExpiry b = s.modBank b fun k => { k with writeRecovery := timerOut k.writeRecovery } := by
  rw [writeRecoveryExpiry_eq]
  split
  next h => exact modBank_congr (by simp only [timerOut, h, if_true])
  next h => exact (modBank_of_fixed (by simp only [timerOut, h, if_false])).symm

/-- The bank after its state timer has run out, if it has (R75 to R77). -/
def stateOut (k : Bank) : Bank := { k with state := k.runOut.state }

theorem stateOut_of_waiting {k : Bank} (ho : ∀ row phys, k.state ≠ .opening row phys 0) (hc : k.state ≠ .closing 0)
    (hr : k.state ≠ .refreshing 0) : stateOut k = k := by
  have hstate : k.runOut.state = k.state := by
    unfold Bank.runOut
    dsimp only
    split
    next h => exact absurd h (ho _ _)
    next h => exact absurd h hc
    next h => exact absurd h hr
    · rfl
  unfold stateOut
  rw [hstate]

/-- The state timer of a bank times one operation at most. -/
theorem stateExpiries_eq {b : BankId} (h : ¬(s.EndsConditioning ∧ b = 3)) :
    ((s.openDelayExpiry b).closeDelayExpiry b).refreshTimeExpiry b = s.modBank b stateOut := by
  by_cases ho : ∃ row phys, (s.banks.get b).state = .opening row phys 0
  · obtain ⟨row, phys, hs⟩ := ho
    rw [openDelayExpiry_some hs, closeDelayExpiry_eq, if_neg (by simp), refreshTimeExpiry_eq, if_neg (by simp)]
    exact modBank_congr (by simp only [stateOut, Bank.runOut, hs])
  · have ho : ∀ row phys, (s.banks.get b).state ≠ .opening row phys 0 := fun row phys hs => ho ⟨row, phys, hs⟩
    rw [openDelayExpiry_none ho, closeDelayExpiry_eq]
    by_cases hc : (s.banks.get b).state = .closing 0
    · rw [if_pos hc, refreshTimeExpiry_eq, if_neg (by simp)]
      exact modBank_congr (by simp only [stateOut, Bank.runOut, hc])
    · rw [if_neg hc, refreshTimeExpiry_eq]
      by_cases hr : (s.banks.get b).state = .refreshing 0
      · have hend : ¬(s.refresh.conditioning = .trailing ∧ b = 3) := fun hend => h ⟨⟨hend.1, hend.2 ▸ hr⟩, hend.2⟩
        rw [if_pos hr, if_neg hend]
        exact modBank_congr (by simp only [stateOut, Bank.runOut, hr])
      · rw [if_neg hr]
        exact (modBank_of_fixed (stateOut_of_waiting ho hc hr)).symm

theorem stateExpiries_ends (h : s.EndsConditioning) :
    ((s.openDelayExpiry 3).closeDelayExpiry 3).refreshTimeExpiry 3 = (s.modBank 3 stateOut).endConditioning := by
  obtain ⟨htrailing, hs⟩ := h
  rw [openDelayExpiry_none (by simp [hs]), closeDelayExpiry_eq, if_neg (by simp [hs]), refreshTimeExpiry_eq, if_pos hs,
    if_pos ⟨htrailing, rfl⟩]
  exact congrArg endConditioning (modBank_congr (by simp only [stateOut, Bank.runOut, hs]))

theorem bankRunOuts_eq {b : BankId} (h : ¬(s.EndsConditioning ∧ b = 3)) : s.bankRunOuts b = s.modBank b Bank.runOut := by
  unfold bankRunOuts
  rw [stateExpiries_eq h, rowMinExpiry_modBank, writeRecoveryExpiry_modBank, modBank_modBank, modBank_modBank]
  rfl

theorem bankRunOuts_ends (h : s.EndsConditioning) : s.bankRunOuts 3 = (s.modBank 3 Bank.runOut).endConditioning := by
  unfold bankRunOuts
  rw [stateExpiries_ends h, rowMinExpiry_modBank, writeRecoveryExpiry_modBank, endConditioning_modBank,
    endConditioning_modBank, modBank_modBank, modBank_modBank]
  rfl

/-- Every bank's timers pass a window that makes them run out (R72). -/
def runOutAll (s : State) : State := { s with banks := s.banks.map Bank.runOut }

theorem runOutAll_eq :
    (((s.modBank 0 Bank.runOut).modBank 1 Bank.runOut).modBank 2 Bank.runOut).modBank 3 Bank.runOut = s.runOutAll := by
  unfold runOutAll modBank
  dsimp only
  congr 1
  refine vector_ext_get fun b => ?_
  rw [get_map]
  fin_cases b <;> simp [get_put]

theorem endsConditioning_modBank {b : BankId} (hb : b ≠ 3) (f : Bank → Bank) :
    (s.modBank b f).EndsConditioning ↔ s.EndsConditioning := by
  unfold EndsConditioning
  rw [s.modBank_get_of_ne hb]
  rfl

theorem bankRunOuts_of_ne {b : BankId} (hb : b ≠ 3) : s.bankRunOuts b = s.modBank b Bank.runOut :=
  bankRunOuts_eq fun h => hb h.2

theorem runOuts_first_three :
    allBanks.foldl bankRunOuts s =
      (((s.modBank 0 Bank.runOut).modBank 1 Bank.runOut).modBank 2 Bank.runOut).bankRunOuts 3 := by
  simp only [allBanks, List.foldl_cons, List.foldl_nil]
  rw [bankRunOuts_of_ne (b := 0) (by decide), bankRunOuts_of_ne (b := 1) (by decide), bankRunOuts_of_ne (b := 2) (by decide)]

theorem runOuts_eq (h : ¬s.EndsConditioning) : allBanks.foldl bankRunOuts s = s.runOutAll := by
  rw [runOuts_first_three, bankRunOuts_eq, runOutAll_eq]
  rw [endsConditioning_modBank (by decide), endsConditioning_modBank (by decide), endsConditioning_modBank (by decide)]
  exact fun hc => h hc.1

theorem runOuts_ends (h : s.EndsConditioning) : allBanks.foldl bankRunOuts s = s.runOutAll.endConditioning := by
  rw [runOuts_first_three, bankRunOuts_ends, runOutAll_eq]
  rw [endsConditioning_modBank (by decide), endsConditioning_modBank (by decide), endsConditioning_modBank (by decide)]
  exact h

/-! ### Banks that keep all but their pins -/

/-- The banks are as they were but for their pins, of which some may be gone (R82). -/
def PinsLeft (s t : State) : Prop :=
  ∀ b, ∃ n, n ≤ (s.banks.get b).pins ∧ t.banks.get b = { s.banks.get b with pins := n }

theorem PinsLeft.of_eq (h : t.banks = s.banks) : s.PinsLeft t := fun b => ⟨_, le_refl _, by rw [h]⟩

theorem PinsLeft.trans (h : s.PinsLeft t) (h' : t.PinsLeft u) : s.PinsLeft u := fun b => by
  obtain ⟨n, hn, hb⟩ := h b
  obtain ⟨m, hm, hc⟩ := h' b
  rw [hb] at hm hc
  exact ⟨m, hm.trans hn, hc⟩

theorem PinsLeft.foldl {α : Type} {f : State → α → State} (hf : ∀ (u : State) a, u.PinsLeft (f u a)) (l : List α) (s : State) :
    s.PinsLeft (l.foldl f s) := by
  induction l generalizing s with
  | nil => exact .of_eq rfl
  | cons a l ih => exact (hf s a).trans (ih _)

theorem PinsLowered.pinsLeft {l : List Record} (h : s.PinsLowered t l) : s.PinsLeft t := fun b => ⟨_, Nat.sub_le _ _, h b⟩

theorem suspendBank_pinsLeft (b : BankId) : s.PinsLeft (s.suspendBank b) := fun c => by
  rw [suspendBank_bank]
  split
  next h => exact ⟨0, Nat.zero_le _, by rw [h]⟩
  · exact ⟨_, le_refl _, rfl⟩

theorem expiryAt_pinsLeft (b : BankId) : s.PinsLeft (s.expiryAt b) := by
  unfold expiryAt
  dsimp only
  split
  · split
    · refine PinsLeft.trans (t := s.modAccount b _) (.of_eq rfl) ((suspendBank_pinsLeft b).trans (.of_eq (post_banks ..)))
    · exact .of_eq rfl
  · exact .of_eq (post_banks ..)

theorem takeExpiry_pinsLeft : s.PinsLeft s.takeExpiry := by
  unfold takeExpiry
  dsimp only
  refine PinsLeft.trans (PinsLeft.foldl (fun u b => u.expiryAt_pinsLeft b) allBanks s) ?_
  refine PinsLeft.of_eq ?_
  rw [retirements_eq]

theorem PinsLeft.openRow? (h : s.PinsLeft t) (b : BankId) : (t.banks.get b).openRow? = (s.banks.get b).openRow? := by
  obtain ⟨n, -, hb⟩ := h b
  rw [hb]
  rfl

/-! ### The end of a window -/

/-- A refill changes the bucket alone (R94). -/
theorem refill_eq : s.refill = { s with credit := s.refill.credit } := by
  unfold refill
  split <;> rfl

theorem refill_credit : s.refill.credit = if s.credit.refillDue then s.credit.refilled s.runPage.creditCapacity else s.credit := by
  unfold refill
  split <;> rfl

/-- The state after a window in which nothing but the timers passes: those that have run out are taken, and every timer counts
the window (R72, R94, R112). -/
def passed (s : State) : State :=
  { s with
    decided := true
    ports := s.ports.map Port.tick
    banks := s.banks.map Bank.pass
    credit := s.refill.credit.tick s.runPage.refillPeriod
    refresh := { s.refresh with elapsed := if s.mode.sched.running then s.refresh.elapsed + 1 else s.refresh.elapsed } }

theorem runOutAll_refill_endWindow : s.runOutAll.refill.endWindow = s.passed := by
  have hcredit : s.runOutAll.refill.credit = s.refill.credit := by rw [refill_credit, refill_credit]; rfl
  rw [refill_eq, hcredit]
  unfold passed endWindow runOutAll
  dsimp only
  congr 1
  refine vector_ext_get fun b => ?_
  rw [get_map, get_map, get_map]
  rfl

theorem expiryDue_iff : s.expiryDue = true ↔ s.mode.sched.running = true ∧ s.runPage.refreshInterval ≤ s.refresh.elapsed := by
  simp [expiryDue]

theorem expiryDue_of_noExpiry (h : s.NoExpiry) : s.expiryDue = false := by
  rw [← Bool.not_eq_true, expiryDue_iff]
  exact fun hc => absurd (h hc.1) (not_lt.2 hc.2)

theorem intervalExpiry_of_not_due (h : s.expiryDue = false) : s.intervalExpiry = s := by
  unfold intervalExpiry
  rw [h, if_neg (by decide)]

/-- Nothing is due at the interval timer when the conditioning does not end. -/
theorem ended_quiet (h : ¬s.EndsConditioning) (hn : s.NoExpiry) : s.takeDue.endWindow = s.passed := by
  unfold takeDue
  rw [runOuts_eq h, intervalExpiry_of_not_due, runOutAll_refill_endWindow]
  rw [refill_eq]
  exact expiryDue_of_noExpiry (s := s) hn

/-- The window in which the conditioning ends; the interval timer has just started (R128). -/
theorem ended_conditioning (h : s.EndsConditioning) (hi : 0 < s.runPage.refreshInterval) :
    s.takeDue.endWindow = s.endConditioning.passed := by
  have hcomm : s.runOutAll.endConditioning = s.endConditioning.runOutAll := by
    rw [endConditioning_eq, endConditioning_eq, post_events_congr (s := s) (t := s.runOutAll) rfl]
    rfl
  unfold takeDue
  rw [runOuts_ends h, hcomm, intervalExpiry_of_not_due, runOutAll_refill_endWindow]
  rw [refill_eq]
  refine expiryDue_of_noExpiry (s := s.endConditioning) fun _ => ?_
  rw [endConditioning_eq]
  exact hi

/-- The window in which the interval expires: the rest of the window first (R112, log 3). -/
theorem ended_expiry (h : ¬s.EndsConditioning) (hd : s.expiryDue = true) :
    s.takeDue.endWindow = s.runOutAll.refill.takeExpiry.endWindow := by
  unfold takeDue
  rw [runOuts_eq h, intervalExpiry, if_pos]
  rw [refill_eq]
  exact hd

end State

end Sys2Proof.Machine

end

section
/-! PROOFS. The counts of a window at the queues: ageing, stall counts and stall aborts (3.6, 3.7), and the wheel (6.2). -/

-- One proof after another: a thread for each would reserve more memory than the check allows.
set_option Elab.async false

namespace Sys2Proof.Machine

variable {s t u : State}

namespace State

/-! ### Stall aborts -/

theorem abortRecord_eq (p : PortId) (r : Record) : abortRecord p s r = { s with
    ports := (s.finishClient p r .stalled).ports
    regions := (s.finishClient p r .stalled).regions
    banks := (s.finishClient p r .stalled).banks
    events := (s.post .stallAbort (.port p) (some r.tag) r.burstsDone).events } := by
  have hpost := post_events_congr (s := s) (t := s.finishClient p r .stalled) (finishClient_events ..) .stallAbort (.port p)
    (some r.tag) r.burstsDone
  unfold abortRecord
  rw [post_eq, hpost, finishClient_eq]

theorem abortRecord_pinsLeft (p : PortId) (r : Record) : s.PinsLeft (abortRecord p s r) :=
  (s.releaseAll_pins [r]).pinsLeft.trans (.of_eq (by rw [abortRecord_eq]; rfl))

theorem aborts_eq (p : PortId) (l : List Record) (s : State) : l.foldl (abortRecord p) s = { s with
    ports := (l.foldl (abortRecord p) s).ports
    regions := (l.foldl (abortRecord p) s).regions
    banks := (l.foldl (abortRecord p) s).banks
    events := (l.foldl (abortRecord p) s).events } := by
  induction l generalizing s with
  | nil => rfl
  | cons r l ih => rw [List.foldl_cons, ih, abortRecord_eq]

/-! ### The stall counts of the ports -/

theorem stallPort_eq (p : PortId) : s.stallPort p = { s with
    ports := (s.stallPort p).ports
    regions := (s.stallPort p).regions
    banks := (s.stallPort p).banks
    events := (s.stallPort p).events } := by
  unfold stallPort
  dsimp only
  split
  · rfl
  · rw [aborts_eq]
    rfl

theorem stallPort_pinsLeft (p : PortId) : s.PinsLeft (s.stallPort p) := by
  unfold stallPort
  dsimp only
  split
  · exact .of_eq rfl
  · exact PinsLeft.trans (t := s.modPort p fun k => { k with queue := k.queue.map Record.stallMore }) (.of_eq rfl)
      (PinsLeft.foldl (fun u r => u.abortRecord_pinsLeft p r) _ _)

theorem stallPorts_eq (l : List PortId) (s : State) : l.foldl stallPort s = { s with
    ports := (l.foldl stallPort s).ports
    regions := (l.foldl stallPort s).regions
    banks := (l.foldl stallPort s).banks
    events := (l.foldl stallPort s).events } := by
  induction l generalizing s with
  | nil => rfl
  | cons p l ih => rw [List.foldl_cons, ih, stallPort_eq]

/-- The counts of a window at the queues: the records age, then the stall counts rise and the aborts are taken (R54, R55). -/
def countWindow (s : State) : State := allPorts.foldl stallPort (s.mapRecords Record.grow)

/-- The phases of a window (R89). -/
theorem window_eq (ready : BitVec 4) (drive : Option BurstData) : s.window ready drive =
    (((s.beginWindow.sampleReady ready).decide drive).advanceWheel.countWindow.settleDrain).takeDue.endWindow := rfl

theorem countWindow_eq : s.countWindow = { s with
    ports := s.countWindow.ports
    hostQueue := s.hostQueue.map Record.grow
    regions := s.countWindow.regions
    banks := s.countWindow.banks
    events := s.countWindow.events } := by
  unfold countWindow
  rw [stallPorts_eq]
  rfl

theorem countWindow_pinsLeft : s.PinsLeft s.countWindow :=
  PinsLeft.trans (t := s.mapRecords Record.grow) (.of_eq rfl) (PinsLeft.foldl (fun u p => u.stallPort_pinsLeft p) _ _)

theorem settleDrain_pinsLeft : s.PinsLeft s.settleDrain := .of_eq s.settleDrain_banks

/-! ### A window in which no record is stall-aborted -/

/-- No stall count stands so high that the window's low sample takes it to the limit (R55). -/
def StallsBelow (s : State) : Prop :=
  ∀ p, (s.ports.get p).ready = false → ∀ r ∈ (s.ports.get p).queue, ∀ n, r.state = .active n → n + 1 < s.runPage.stallLimit

end State

theorem Record.grow_eq (r : Record) :
    r.grow = if r.isActive then r else { r with age := if r.age < 4095 then r.age + 1 else r.age } := by
  unfold Record.grow
  split
  · rfl
  · split <;> rfl

theorem Record.stallMore_of_not_active {r : Record} (h : r.isActive = false) : r.stallMore = r := by
  unfold Record.stallMore
  unfold Record.isActive at h
  split
  next hs => rw [hs] at h; cases h
  · rfl

theorem Record.waited_eq (low : Bool) (r : Record) : r.waited low = if low then r.grow.stallMore else r.grow := by
  cases ha : r.isActive with
  | true =>
    obtain ⟨n, hs⟩ : ∃ n, r.state = .active n := by
      unfold Record.isActive at ha
      split at ha
      next n hs => exact ⟨n, hs⟩
      · cases ha
    rw [Record.grow_eq, ha, if_pos rfl]
    simp only [Record.waited, Record.stallMore, hs]
  | false =>
    have hgrow : r.grow = { r with age := if r.age < 4095 then r.age + 1 else r.age } := by
      rw [Record.grow_eq, ha, if_neg (by decide)]
    rw [hgrow, Record.stallMore_of_not_active (by exact ha), ite_self]
    unfold Record.isActive at ha
    unfold Record.waited
    split
    next hs => rw [hs] at ha; cases ha
    · rfl

namespace State

/-- The queues after a window that aborts nothing. -/
def waitedAll (s : State) : State :=
  { s with
    ports := s.ports.map fun k => { k with queue := k.queue.map (Record.waited !k.ready) }
    hostQueue := s.hostQueue.map (Record.waited false) }

/-- A record of a port whose counts stay below the limit is aborted by none of them. -/
theorem stalledOut_grow {limit : Nat} {r : Record} (h : ∀ n, r.state = .active n → n + 1 < limit) :
    r.grow.stallMore.stalledOut limit = false := by
  have hw := r.waited_eq true
  rw [if_pos rfl] at hw
  rw [← hw]
  unfold Record.waited Record.stalledOut
  cases hs : r.state with
  | active n => simpa using h n hs
  | queued => simp
  | suspended => simp

/-- The stall counts of a port at which no count reaches the limit. -/
def stalled (k : Port) : Port := if k.ready then k else { k with queue := k.queue.map Record.stallMore }

theorem stallPort_quiet {p : PortId} (h : (s.ports.get p).ready = false →
      ∀ r ∈ (s.ports.get p).queue, r.stallMore.stalledOut s.runPage.stallLimit = false) :
    s.stallPort p = s.modPort p stalled := by
  unfold stallPort
  dsimp only
  split
  next hr =>
    unfold modPort stalled
    rw [if_pos hr, put_get_self]
  next hr =>
    have hnone : ((s.modPort p fun k => { k with queue := k.queue.map Record.stallMore }).ports.get p).queue.filter
        (Record.stalledOut s.runPage.stallLimit) = [] := by
      rw [modPort_get_self, List.filter_eq_nil_iff]
      intro r hr'
      obtain ⟨q, hq, rfl⟩ := List.mem_map.1 hr'
      simp [h (by simpa using hr) q hq]
    rw [hnone, List.foldl_nil]
    unfold modPort stalled
    rw [if_neg hr]

theorem stallPorts_quiet {l : List PortId} (hl : l.Nodup) (h : ∀ p ∈ l, (s.ports.get p).ready = false →
      ∀ r ∈ (s.ports.get p).queue, r.stallMore.stalledOut s.runPage.stallLimit = false) :
    l.foldl stallPort s = l.foldl (fun u p => u.modPort p stalled) s := by
  induction l generalizing s with
  | nil => rfl
  | cons p l ih =>
    obtain ⟨hp, hl⟩ := List.nodup_cons.1 hl
    rw [List.foldl_cons, List.foldl_cons, stallPort_quiet (h p List.mem_cons_self)]
    refine ih hl fun q hq => ?_
    have hne : p ≠ q := fun hpq => hp (hpq ▸ hq)
    rw [modPort_get, if_neg hne]
    exact h q (List.mem_cons_of_mem _ hq)

theorem modPorts_eq (f : Port → Port) : allPorts.foldl (fun u p => u.modPort p f) s = { s with ports := s.ports.map f } := by
  simp only [allPorts, List.foldl_cons, List.foldl_nil, modPort]
  congr 1
  refine vector_ext_get fun p => ?_
  rw [get_map]
  fin_cases p <;> simp [get_put]

/-- Where no count reaches the limit, the queues count the window and nothing else changes (R54, R55). -/
theorem countWindow_quiet (h : s.StallsBelow) : s.countWindow = s.waitedAll := by
  unfold countWindow
  rw [stallPorts_quiet (by decide) fun p _ hr r hr' => ?_, modPorts_eq]
  · unfold waitedAll mapRecords
    congr 1
    · refine vector_ext_get fun p => ?_
      rw [get_map, get_map, get_map]
      unfold stalled
      generalize s.ports.get p = k
      cases hk : k.ready with
      | true => simp [Record.waited_eq]
      | false => simp [Record.waited_eq]
    · exact List.map_congr_left fun r _ => by simp [Record.waited_eq]
  · simp only [mapRecords, get_map] at hr hr'
    obtain ⟨q, hq, rfl⟩ := List.mem_map.1 hr'
    exact stalledOut_grow (h p hr q hq)

/-! ### The wheel -/

/-- The window is the wheel's last (R91). -/
def Wraps (s : State) : Prop := s.runPage.wheelLength ≤ s.arbiter.wheelPosition + 1

/-- The position after a window (R91). -/
def nextPosition (s : State) : Nat :=
  if s.arbiter.wheelPosition + 1 < s.runPage.wheelLength then s.arbiter.wheelPosition + 1 else 0

/-- The wheel wrap finds the drain of a pending switch complete (R146). -/
def FlipsTo (s : State) (ret : ReturnState) : Prop := s.mode.sched = .drainSwitch ret ∧ s.Wraps ∧ s.DrainComplete

/-- The state that a wheel wrap leaves where mode control has tested it. -/
def wrapped (s : State) : State := { s with arbiter := { s.arbiter with wheelPosition := 0, wrapHanded := false } }

theorem advanceWheel_of_inside (h : ¬s.Wraps) :
    s.advanceWheel = { s with arbiter := { s.arbiter with wheelPosition := s.nextPosition } } := by
  have hlt : s.arbiter.wheelPosition + 1 < s.runPage.wheelLength := not_le.1 h
  unfold advanceWheel nextPosition
  rw [if_pos hlt, if_pos hlt]

theorem advanceWheel_of_waiting (h : s.Wraps) (hno : ∀ ret, ¬s.FlipsTo ret) : s.advanceWheel = s.wrapped := by
  unfold advanceWheel
  rw [if_neg (not_lt.2 h), testWrap_of_waiting (s := s.handWrap) rfl]
  · rfl
  · by_cases hs : ∃ ret, s.mode.sched = .drainSwitch ret
    · obtain ⟨ret, hs⟩ := hs
      refine .inr ?_
      rw [← Bool.not_eq_true, drained_iff]
      exact fun hd => hno ret ⟨hs, h, hd⟩
    · exact .inl fun ret hs' => hs ⟨ret, hs'⟩

theorem advanceWheel_flips {ret : ReturnState} (h : s.FlipsTo ret) : s.advanceWheel = s.wrapped.takeFlip ret := by
  obtain ⟨hs, hw, hd⟩ := h
  unfold advanceWheel
  rw [if_neg (not_lt.2 hw), testWrap_flips (s := s.handWrap) rfl hs ((drained_iff _).2 hd)]
  rfl

/-- Without a flip the wheel moves on, and nothing else changes (R91, R146). -/
theorem advanceWheel_keeps (hno : ∀ ret, ¬s.FlipsTo ret) :
    s.advanceWheel = { s with arbiter := { s.arbiter with
      wheelPosition := s.nextPosition, wrapHanded := s.advanceWheel.arbiter.wrapHanded } } := by
  by_cases h : s.Wraps
  · rw [advanceWheel_of_waiting h hno, nextPosition, if_neg (not_lt.2 h)]
    rfl
  · rw [advanceWheel_of_inside h]

theorem takeFlip_keeps (ret : ReturnState) :
    (s.takeFlip ret).bus = s.bus ∧ (s.takeFlip ret).arbiter = { s.arbiter with wheelPosition := 0 } ∧
      s.PinsLeft (s.takeFlip ret) := by
  have hflip := s.flipPages_eq
  unfold takeFlip
  dsimp only
  rw [afterFlip_eq]
  generalize s.flipPages = f at hflip
  dsimp only
  split
  · have hx := f.takeExpiry_eq
    have hpins := f.takeExpiry_pinsLeft
    generalize f.takeExpiry = v at hx hpins ⊢
    refine ⟨?_, ?_, PinsLeft.trans (t := f) (.of_eq (by rw [hflip])) (PinsLeft.trans hpins (.of_eq rfl))⟩
    · rw [hx, hflip]
    · rw [hx, hflip]
  · refine ⟨?_, ?_, .of_eq ?_⟩ <;> rw [hflip]

/-- Whether a flip is made or not (R91). -/
theorem advanceWheel_always : s.advanceWheel.bus = s.bus ∧
    s.advanceWheel.arbiter = { s.arbiter with
      wheelPosition := s.nextPosition, wrapHanded := s.advanceWheel.arbiter.wrapHanded } ∧ s.PinsLeft s.advanceWheel := by
  by_cases h : ∃ ret, s.FlipsTo ret
  · obtain ⟨ret, hf⟩ := h
    obtain ⟨hbus, harbiter, hpins⟩ := s.wrapped.takeFlip_keeps ret
    have hnext : s.nextPosition = 0 := if_neg (not_lt.2 hf.2.1)
    rw [advanceWheel_flips hf, harbiter, hnext]
    exact ⟨hbus, rfl, PinsLeft.trans (t := s.wrapped) (.of_eq rfl) hpins⟩
  · have hk := advanceWheel_keeps (s := s) fun ret hf => h ⟨ret, hf⟩
    generalize s.advanceWheel = v at hk
    refine ⟨?_, ?_, .of_eq ?_⟩ <;> rw [hk]

end State

end Sys2Proof.Machine

end

section
/-! PROOFS. The command of a decision: what it changes of each block, against the state before the window (5.3, 6.1). -/

-- One proof after another: a thread for each would reserve more memory than the check allows.
set_option Elab.async false

namespace Sys2Proof.Machine

variable {s t u : State}

namespace State

/-! ### A retirement check and the blocks it does not read -/

/-- Two states have the same refresh accounts, regions and rank. -/
def SameEngine (s t : State) : Prop :=
  t.refresh.accounts = s.refresh.accounts ∧ t.regions = s.regions ∧ t.dram = s.dram

theorem SameEngine.account (h : s.SameEngine t) (b : BankId) : t.account b = s.account b :=
  congrArg (fun v : Vector Account 4 => v.get b) h.1

theorem SameEngine.retireOne (h : s.SameEngine t) (b : BankId) : (s.retireOne b).SameEngine (t.retireOne b) := by
  have ha := h.account b
  obtain ⟨hacc, hregions, hdram⟩ := h
  refine ⟨?_, ?_, ?_⟩
  · unfold State.retireOne
    dsimp only
    have hmod : ∀ v : State, (v.modAccount b Account.pay).refresh.accounts =
        put v.refresh.accounts b (v.refresh.accounts.get b).pay := fun _ => rfl
    split <;> split <;> simp only [hmod, hacc]
  · rw [retireOne_regions, retireOne_regions, hregions]
  · rw [retireOne_dram, retireOne_dram, ha, hregions, hdram]

theorem SameEngine.mayRetire (h : s.SameEngine t) (b : BankId) : t.mayRetire b = s.mayRetire b := by
  simp only [State.mayRetire, owed, pointerNeedsRefresh, h.account b, h.2.1]

/-- A retirement check reads the accounts, the regions and the rank alone (R119). -/
theorem SameEngine.retirementCheck (h : s.SameEngine t) (b : BankId) :
    (s.retirementCheck b).SameEngine (t.retirementCheck b) := by
  have key : ∀ n (s t : State), s.SameEngine t → (retireUpTo b n s).SameEngine (retireUpTo b n t) := by
    intro n
    induction n with
    | zero => exact fun _ _ h => h
    | succ n ih =>
      intro s t h
      unfold retireUpTo
      rw [h.mayRetire b]
      split
      · exact ih _ _ (h.retireOne b)
      · exact h
  unfold State.retirementCheck
  rw [h.account b]
  exact key _ s t h

theorem SameEngine.modAccount (h : s.SameEngine t) (b : BankId) (f : Account → Account) :
    (s.modAccount b f).SameEngine (t.modAccount b f) := by
  obtain ⟨hacc, hregions, hdram⟩ := h
  refine ⟨?_, hregions, hdram⟩
  change put t.refresh.accounts b (f (t.refresh.accounts.get b)) = put s.refresh.accounts b (f (s.refresh.accounts.get b))
  rw [hacc]

/-! ### The state with the samples of the window -/

/-- The window has begun, and its READY samples are taken (R21). -/
def begun (s : State) (ready : BitVec 4) : State := s.beginWindow.sampleReady ready

theorem begun_eq (ready : BitVec 4) : s.begun ready = { s with ports := (s.begun ready).ports, decided := false } := by
  have h := s.beginWindow_eq
  rw [beginWindow_decided] at h
  unfold begun sampleReady
  rw [h]

theorem begun_port (ready : BitVec 4) (p : PortId) :
    (s.begun ready).ports.get p = { s.beginWindow.ports.get p with ready := s.sampled ready p } := by
  obtain ⟨-, -, -, hlow, -⟩ := s.beginWindow_port_keeps p
  unfold begun sampleReady sampled
  rw [get_mapIdx, ← hlow]

theorem begun_queue (ready : BitVec 4) (p : PortId) : ((s.begun ready).ports.get p).queue = (s.ports.get p).queue := by
  rw [begun_port]
  exact s.beginWindow_queue p

theorem begun_queueOf (ready : BitVec 4) (who : Requester) : (s.begun ready).queueOf who = s.queueOf who := by
  cases who with
  | port p => exact begun_queue ready p
  | host =>
    change (s.begun ready).hostQueue = s.hostQueue
    rw [begun_eq]

/-- The choice of the window (R89). -/
def choice (s : State) (ready : BitVec 4) : Option (Requester × Action) := (s.sampleReady ready).choose

theorem begun_choose (ready : BitVec 4) : (s.begun ready).choose = s.choice ready := s.choose_beginWindow ready

/-- What the window's decision chooses, the state grants. -/
theorem choice_grants {ready : BitVec 4} {x : Requester × Action} (h : s.choice ready = some x) :
    (s.begun ready).Grants x.2 := choose_grants ((begun_choose ready).trans h)

/-! ### What each action changes -/

theorem issueRefresh_eq (b : BankId) : s.issueRefresh b = { s with
    banks := put s.banks b { s.banks.get b with state := .refreshing s.runPage.refreshTime }
    refresh := (s.issueRefresh b).refresh
    credit := { s.credit with count := s.credit.count - 1 }
    bus := some (.refresh b (s.account b).pointer)
    dram := (s.issueRefresh b).dram
    history := (s.noteRefresh b (s.account b).pointer).history } := by
  unfold issueRefresh
  dsimp only
  rw [retirementCheck_eq]
  rfl

theorem issueRefresh_sameEngine (b : BankId) :
    ((s.modAccount b Account.pay).retirementCheck b).SameEngine (s.issueRefresh b) :=
  SameEngine.retirementCheck (SameEngine.modAccount (s := s)
    (t := ((s.beginRefresh b).drive (.refresh b (s.account b).pointer)).noteRefresh b (s.account b).pointer) ⟨rfl, rfl, rfl⟩
    b Account.pay) b

/-! ### Bursts -/

theorem moveBurst_eq (r : Record) (drive : Option BurstData) : s.moveBurst r drive = { s with
    banks := (s.moveBurst r drive).banks, bus := (s.moveBurst r drive).bus, dram := (s.moveBurst r drive).dram } := by
  unfold moveBurst
  dsimp only
  split <;> rfl

theorem burstClient_eq (p : PortId) (r : Record) : s.burstClient p r = { s with
    ports := (s.burstClient p r).ports, regions := (s.burstClient p r).regions, banks := (s.burstClient p r).banks } := by
  unfold burstClient
  dsimp only
  split
  · rw [finishClient_eq]
    rfl
  · unfold advanceClient
    dsimp only
    split <;> rfl

theorem sampleWord_eq (r : Record) : s.sampleWord r = { s with
    host := (s.sampleWord r).host, freeCount := (s.sampleWord r).freeCount } := by
  unfold sampleWord
  split
  · rfl
  · split <;> rfl

theorem hostDone_eq (r : Record) : s.hostDone r = { s with
    host := (s.hostDone r).host, hostQueue := (s.hostDone r).hostQueue, regions := (s.hostDone r).regions
    banks := (s.hostDone r).banks } := by
  unfold hostDone
  rw [release_eq]
  rfl

theorem issueBurst_eq (who : Requester) (r : Record) (drive : Option BurstData) : s.issueBurst who r drive = { s with
    host := (s.issueBurst who r drive).host, ports := (s.issueBurst who r drive).ports
    hostQueue := (s.issueBurst who r drive).hostQueue, regions := (s.issueBurst who r drive).regions
    banks := (s.issueBurst who r drive).banks, bus := (s.moveBurst r drive).bus
    dram := (s.moveBurst r drive).dram, freeCount := (s.issueBurst who r drive).freeCount } := by
  cases who with
  | port p =>
    change (s.moveBurst r drive).burstClient p r = { s with
      host := ((s.moveBurst r drive).burstClient p r).host, ports := ((s.moveBurst r drive).burstClient p r).ports
      hostQueue := ((s.moveBurst r drive).burstClient p r).hostQueue
      regions := ((s.moveBurst r drive).burstClient p r).regions, banks := ((s.moveBurst r drive).burstClient p r).banks
      bus := (s.moveBurst r drive).bus, dram := (s.moveBurst r drive).dram
      freeCount := ((s.moveBurst r drive).burstClient p r).freeCount }
    have hm := s.moveBurst_eq r drive
    generalize s.moveBurst r drive = m at hm ⊢
    have hb := m.burstClient_eq p r
    generalize m.burstClient p r = v at hb ⊢
    rw [hb, hm]
  | host =>
    change (s.moveBurst r drive).burstHost r = { s with
      host := ((s.moveBurst r drive).burstHost r).host, ports := ((s.moveBurst r drive).burstHost r).ports
      hostQueue := ((s.moveBurst r drive).burstHost r).hostQueue
      regions := ((s.moveBurst r drive).burstHost r).regions, banks := ((s.moveBurst r drive).burstHost r).banks
      bus := (s.moveBurst r drive).bus, dram := (s.moveBurst r drive).dram
      freeCount := ((s.moveBurst r drive).burstHost r).freeCount }
    rw [burstHost_eq]
    have hm := s.moveBurst_eq r drive
    generalize s.moveBurst r drive = m at hm ⊢
    have hw := m.sampleWord_eq r
    generalize m.sampleWord r = w at hw ⊢
    have hd := w.hostDone_eq r
    generalize w.hostDone r = v at hd ⊢
    rw [hd, hw, hm]

/-! ### What every action leaves alone -/

theorem issue_eq (drive : Option BurstData) (a : Action) : s.issue drive a = { s with
    host := (s.issue drive a).host, ports := (s.issue drive a).ports, hostQueue := (s.issue drive a).hostQueue
    regions := (s.issue drive a).regions, banks := (s.issue drive a).banks, refresh := (s.issue drive a).refresh
    credit := (s.issue drive a).credit, bus := (s.issue drive a).bus, dram := (s.issue drive a).dram
    history := (s.issue drive a).history, freeCount := (s.issue drive a).freeCount } := by
  cases a with
  | refresh b =>
    have h := s.issueRefresh_eq b
    have hv : s.issue drive (.refresh b) = s.issueRefresh b := rfl
    rw [hv]
    generalize s.issueRefresh b = v at h ⊢
    rw [h]
  | burst who r =>
    have h := s.issueBurst_eq who r drive
    have hv : s.issue drive (.burst who r) = s.issueBurst who r drive := rfl
    rw [hv]
    generalize s.issueBurst who r drive = v at h ⊢
    rw [h]
  | _ => rfl

theorem retirementCheck_timer (b : BankId) :
    (s.retirementCheck b).refresh.elapsed = s.refresh.elapsed ∧
      (s.retirementCheck b).refresh.conditioning = s.refresh.conditioning := by
  refine retirementCheck_induct
    (I := fun u => u.refresh.elapsed = s.refresh.elapsed ∧ u.refresh.conditioning = s.refresh.conditioning) ?_ ⟨rfl, rfl⟩
  intro u _ hu
  rw [retireOne_elapsed, retireOne_conditioning]
  exact hu

section Fields

variable {drive : Option BurstData} {a : Action}

theorem issue_credit :
    (a.TakesCredit → (s.issue drive a).credit = { s.credit with count := s.credit.count - 1 }) ∧
    (¬a.TakesCredit → (s.issue drive a).credit = s.credit) := by
  cases a with
  | refresh b => exact ⟨fun _ => by rw [issue, issueRefresh_eq], fun h => absurd trivial h⟩
  | burst who r => exact ⟨fun h => h.elim, fun _ => by rw [issue, issueBurst_eq]⟩
  | condition b => exact ⟨fun _ => rfl, fun h => absurd trivial h⟩
  | openFor b row => exact ⟨fun _ => rfl, fun h => absurd trivial h⟩
  | close b => exact ⟨fun h => h.elim, fun _ => rfl⟩
  | closeAll => exact ⟨fun h => h.elim, fun _ => rfl⟩

theorem issue_elapsed : (s.issue drive a).refresh.elapsed = s.refresh.elapsed := by
  cases a with
  | refresh b => exact (retirementCheck_timer b).1
  | burst who r => rw [issue, issueBurst_eq]
  | _ => rfl

/-- Only CLOSE-ALL and the conditioning's refreshes move the conditioning on (R126, R127). -/
theorem issue_conditioning : (s.issue drive a).refresh.conditioning =
    match a with
    | .closeAll => .conditioning 0
    | .condition _ => s.refresh.conditioning.next
    | _ => s.refresh.conditioning := by
  cases a with
  | refresh b => exact (retirementCheck_timer b).2
  | burst who r => rw [issue, issueBurst_eq]
  | _ => rfl

theorem issue_accounts (h : ∀ b, a ≠ .refresh b) : (s.issue drive a).refresh.accounts = s.refresh.accounts := by
  cases a with
  | refresh b => exact absurd rfl (h b)
  | burst who r => rw [issue, issueBurst_eq]
  | _ => rfl

theorem issue_history (h : ∀ b, a ≠ .refresh b) : (s.issue drive a).history = s.history := by
  cases a with
  | refresh b => exact absurd rfl (h b)
  | burst who r => rw [issue, issueBurst_eq]
  | _ => rfl

/-- Where no burst is issued, the queues, the host and the region counts stay. -/
theorem issue_eq_of_no_burst (h : ∀ who r, a ≠ .burst who r) : s.issue drive a = { s with
    banks := (s.issue drive a).banks, refresh := (s.issue drive a).refresh, credit := (s.issue drive a).credit
    bus := (s.issue drive a).bus, dram := (s.issue drive a).dram, history := (s.issue drive a).history } := by
  cases a with
  | refresh b =>
    have hr := s.issueRefresh_eq b
    have hv : s.issue drive (.refresh b) = s.issueRefresh b := rfl
    rw [hv]
    generalize s.issueRefresh b = v at hr ⊢
    rw [hr]
  | burst who r => exact absurd rfl (h who r)
  | _ => rfl

theorem issue_dram (h : ∀ b, a ≠ .refresh b) (hb : ∀ who r, a ≠ .burst who r) : (s.issue drive a).dram = s.dram := by
  cases a with
  | refresh b => exact absurd rfl (h b)
  | burst who r => exact absurd rfl (hb who r)
  | _ => rfl

end Fields

/-! ### The banks in a burst -/

/-- The write-recovery timer of the burst's bank after it (R80). -/
def burstRecovery (s : State) (r : Record) : Option Nat :=
  match r.kind with
  | .read => (s.banks.get r.bank).writeRecovery
  | .write => some s.runPage.writeRecovery

theorem moveBurst_get (r : Record) (drive : Option BurstData) (b : BankId) : (s.moveBurst r drive).banks.get b =
    if r.bank = b then { s.banks.get b with writeRecovery := s.burstRecovery r } else s.banks.get b := by
  unfold moveBurst burstRecovery
  dsimp only
  by_cases h : r.bank = b
  · subst h
    rw [if_pos rfl]
    cases r.kind with
    | read => rfl
    | write => simp only [drive_banks, modBank_get_self]
  · rw [if_neg h]
    cases r.kind with
    | read => rfl
    | write => simp only [drive_banks, s.modBank_get_of_ne h]

/-- The pins of the burst's bank after it: a client's record that goes on holds one, one that finishes gives its own back
(R46, R47). -/
def burstPins (s : State) (who : Requester) (r : Record) : Nat :=
  match who with
  | .port _ =>
    if r.length ≤ r.burstsDone + 1 then (s.banks.get r.bank).pins - (if r.isActive then 1 else 0)
    else (s.banks.get r.bank).pins + (if r.isActive then 0 else 1)
  | .host => (s.banks.get r.bank).pins - (if r.isActive then 1 else 0)

theorem release_get (r : Record) (b : BankId) : (s.release r).banks.get b =
    if r.bank = b then { s.banks.get b with pins := (s.banks.get b).pins - (if r.isActive then 1 else 0) }
    else s.banks.get b := by
  rw [release_bank]
  by_cases hb : r.bank = b
  · simp [hb]
  · simp [hb]

theorem burstClient_get (p : PortId) (r : Record) (b : BankId) : (s.burstClient p r).banks.get b =
    if r.bank = b then { s.banks.get b with pins := s.burstPins (.port p) r } else s.banks.get b := by
  unfold burstClient burstPins
  dsimp only
  by_cases hl : r.length ≤ r.burstsDone + 1
  · rw [if_pos hl, if_pos hl, finishClient_banks, release_get]
    by_cases hb : r.bank = b
    · subst hb
      rfl
    · rw [if_neg hb, if_neg hb]
      rfl
  · rw [if_neg hl, if_neg hl, advanceClient_bank]
    by_cases hb : r.bank = b
    · subst hb
      cases r.isActive <;> simp
    · simp [hb]

theorem burstHost_get (r : Record) (b : BankId) : (s.burstHost r).banks.get b =
    if r.bank = b then { s.banks.get b with pins := s.burstPins .host r } else s.banks.get b := by
  rw [burstHost_eq]
  have hw : (s.sampleWord r).banks = s.banks := by rw [sampleWord_eq]
  change ((s.sampleWord r).release r).banks.get b = _
  rw [release_get, hw]
  by_cases hb : r.bank = b
  · subst hb
    rfl
  · rw [if_neg hb, if_neg hb]

/-- A burst changes its bank's write-recovery timer and its pins (R46, R80). -/
theorem issueBurst_get (who : Requester) (r : Record) (drive : Option BurstData) (b : BankId) :
    (s.issueBurst who r drive).banks.get b =
      if r.bank = b then
        { s.banks.get b with writeRecovery := s.burstRecovery r, pins := s.burstPins who r }
      else s.banks.get b := by
  have hm : ∀ c, (s.moveBurst r drive).banks.get c = _ := s.moveBurst_get r drive
  have hpins : (s.moveBurst r drive).burstPins who r = s.burstPins who r := by
    unfold burstPins
    rw [hm, if_pos rfl]
  cases who with
  | port p =>
    change ((s.moveBurst r drive).burstClient p r).banks.get b = _
    rw [burstClient_get, hpins, hm]
    split <;> rfl
  | host =>
    change ((s.moveBurst r drive).burstHost r).banks.get b = _
    rw [burstHost_get, hpins, hm]
    split <;> rfl

/-- A bank that the action does not name is left alone (R5, R78). -/
theorem issue_bank_of_unnamed {a : Action} {b : BankId} (drive : Option BurstData) (h : ¬a.Names b) :
    (s.issue drive a).banks.get b = s.banks.get b := by
  cases a with
  | closeAll => exact absurd trivial h
  | condition c => exact get_put_of_ne _ h _
  | refresh c =>
    rw [issue, issueRefresh_eq]
    exact get_put_of_ne _ h _
  | close c => exact get_put_of_ne _ h _
  | openFor c row => exact get_put_of_ne _ h _
  | burst who r =>
    rw [issue, issueBurst_get]
    exact if_neg h

/-! ### The state after the command -/

/-- The state after the command of the window's decision (R89). -/
def commanded (s : State) (ready : BitVec 4) (drive : Option BurstData) : State := (s.begun ready).decide drive

variable {ready : BitVec 4} {drive : Option BurstData} {ptr : Requester} {a : Action}

theorem commanded_of_none (h : s.choice ready = none) : s.commanded ready drive = { s.begun ready with bus := none } := by
  unfold commanded State.decide
  rw [begun_choose, h]

theorem commanded_of_some (h : s.choice ready = some (ptr, a)) : s.commanded ready drive =
    { (s.begun ready).issue drive a with arbiter := { s.arbiter with pointer := ptr } } := by
  have harbiter : ((s.begun ready).issue drive a).arbiter = s.arbiter := by rw [issue_eq, begun_eq]
  unfold commanded State.decide
  rw [begun_choose, h]
  dsimp only
  rw [harbiter]

/-- What no command changes. -/
theorem commanded_eq : s.commanded ready drive = { s with
    host := (s.commanded ready drive).host, ports := (s.commanded ready drive).ports
    hostQueue := (s.commanded ready drive).hostQueue, regions := (s.commanded ready drive).regions
    banks := (s.commanded ready drive).banks, refresh := (s.commanded ready drive).refresh
    credit := (s.commanded ready drive).credit
    arbiter := { s.arbiter with pointer := (s.commanded ready drive).arbiter.pointer }
    bus := (s.commanded ready drive).bus, dram := (s.commanded ready drive).dram
    history := (s.commanded ready drive).history, decided := false
    freeCount := (s.commanded ready drive).freeCount } := by
  cases h : s.choice ready with
  | none =>
    rw [commanded_of_none h, begun_eq]
  | some x =>
    obtain ⟨ptr, a⟩ := x
    rw [commanded_of_some h, issue_eq, begun_eq]

end State

end Sys2Proof.Machine

end

section
/-! PROOFS. What a window passes at: the timers of the banks, the refill and the interval, and the operation that its command
starts (5.2, 5.3, 6.3, 7.2). -/

-- One proof after another: a thread for each would reserve more memory than the check allows.
set_option Elab.async false

namespace Sys2Proof.Machine

variable {s t u : State}

/-- The entry of a bank after a window that passes at its timers, some of its pins perhaps gone. -/
def Bank.PassedTo (k new : Bank) : Prop := ∃ n, n ≤ k.pins ∧ new = { k.pass with pins := n }

namespace State

/-! ### The end of a window, whatever falls in it -/

theorem intervalExpiry_keeps : s.intervalExpiry = { s with
    ports := s.intervalExpiry.ports, hostQueue := s.intervalExpiry.hostQueue, banks := s.intervalExpiry.banks
    refresh := s.intervalExpiry.refresh, events := s.intervalExpiry.events, dram := s.intervalExpiry.dram } ∧
    s.PinsLeft s.intervalExpiry := by
  unfold intervalExpiry
  split
  · exact ⟨s.takeExpiry_eq, s.takeExpiry_pinsLeft⟩
  · exact ⟨rfl, .of_eq rfl⟩

theorem ended_always : s.takeDue.endWindow.bus = s.bus ∧ s.takeDue.endWindow.arbiter = s.arbiter ∧
    s.takeDue.endWindow.credit = s.refill.credit.tick s.runPage.refillPeriod ∧
    ∀ b, (s.banks.get b).PassedTo (s.takeDue.endWindow.banks.get b) := by
  have hrun : allBanks.foldl bankRunOuts s = { s with
      banks := s.banks.map Bank.runOut
      mode := { s.mode with sched := (allBanks.foldl bankRunOuts s).mode.sched }
      refresh := (allBanks.foldl bankRunOuts s).refresh, events := (allBanks.foldl bankRunOuts s).events
      dram := (allBanks.foldl bankRunOuts s).dram, history := (allBanks.foldl bankRunOuts s).history } := by
    by_cases h : s.EndsConditioning
    · rw [runOuts_ends h, endConditioning_eq]
      rfl
    · rw [runOuts_eq h]
      rfl
  have htake : s.takeDue = (allBanks.foldl bankRunOuts s).refill.intervalExpiry := rfl
  generalize allBanks.foldl bankRunOuts s = r at hrun htake
  have hcredit : r.refill.credit = s.refill.credit := by
    rw [refill_credit, refill_credit, hrun]
    rfl
  have hrefill := r.refill_eq
  rw [hcredit] at hrefill
  generalize r.refill = f at hrefill htake
  obtain ⟨hframe, hpins⟩ := f.intervalExpiry_keeps
  generalize f.intervalExpiry = v at hframe hpins htake
  rw [htake]
  unfold endWindow
  dsimp only
  refine ⟨?_, ?_, ?_, fun b => ?_⟩
  · rw [hframe, hrefill, hrun]
  · rw [hframe, hrefill, hrun]
  · rw [hframe, hrefill, hrun]
    rfl
  · obtain ⟨n, hn, hb⟩ := hpins b
    rw [hrefill, hrun] at hn hb
    dsimp only at hn hb
    rw [get_map] at hn hb
    rw [get_map, hb]
    exact ⟨n, hn, rfl⟩

/-! ### The drain and the flip after the command -/

variable {ready : BitVec 4} {drive : Option BurstData} {ptr : Requester} {a : Action}

/-- Where the command is no burst, the queues, the host, the regions and the events are those of the window's beginning. -/
theorem commanded_eq_of_no_burst (h : ∀ ptr who r, s.choice ready ≠ some (ptr, .burst who r)) :
    s.commanded ready drive = { s with
      ports := (s.begun ready).ports, banks := (s.commanded ready drive).banks
      refresh := (s.commanded ready drive).refresh, credit := (s.commanded ready drive).credit
      arbiter := { s.arbiter with pointer := (s.commanded ready drive).arbiter.pointer }
      bus := (s.commanded ready drive).bus, dram := (s.commanded ready drive).dram
      history := (s.commanded ready drive).history, decided := false } := by
  cases hc : s.choice ready with
  | none => rw [commanded_of_none hc, begun_eq]
  | some x =>
    obtain ⟨ptr, a⟩ := x
    have ha : ∀ who r, a ≠ .burst who r := fun who r he => h ptr who r (he ▸ hc)
    rw [commanded_of_some hc, issue_eq_of_no_burst ha, begun_eq]

theorem commanded_outstanding (h : ∀ ptr who r, s.choice ready ≠ some (ptr, .burst who r)) :
    (s.commanded ready drive).outstanding = s.outstanding := by
  rw [commanded_eq_of_no_burst h]
  refine outstanding_congr (funext fun who => ?_)
  cases who with
  | port p => exact begun_queue ready p
  | host => rfl

/-- The bank's entry after the command, by the action. -/
theorem commanded_bank (h : s.choice ready = some (ptr, a)) (b : BankId) :
    (s.commanded ready drive).banks.get b = ((s.begun ready).issue drive a).banks.get b := by
  rw [commanded_of_some h]

theorem commanded_bank_of_unnamed {b : BankId} (h : ∀ ptr a, s.choice ready = some (ptr, a) → ¬a.Names b) :
    (s.commanded ready drive).banks.get b = s.banks.get b := by
  cases hc : s.choice ready with
  | none => rw [commanded_of_none hc, begun_eq]
  | some x =>
    obtain ⟨ptr, a⟩ := x
    rw [commanded_bank hc, issue_bank_of_unnamed drive (h ptr a hc), begun_eq]

theorem draining_not_init (hd : s.mode.sched.draining = true) :
    s.mode.sched ≠ .init ∧ s.mode.sched ≠ .run ∧ s.mode.sched ≠ .held := by
  revert hd
  cases s.mode.sched <;> simp [SchedState.draining]

/-- A drain does not let a QUEUED record act, so what acts in it is ACTIVE or SUSPENDED (R50, R53). -/
theorem MayAct.not_queued {who : Requester} {older : List Record} {r : Record} (hd : s.mode.sched.draining = true)
    (h : s.MayAct who older r) : r.state ≠ .queued := fun hq => by
  obtain ⟨-, hrun, hheld⟩ := draining_not_init hd
  obtain ⟨-, -, hstart⟩ := h.1 hq
  cases who with
  | port p => exact hrun hstart.2
  | host => exact hstart.2.elim hrun hheld

theorem openRow?_of_closed {k : Bank} (h : k.state = .closed) : k.openRow? = none := by
  unfold Bank.openRow?
  rw [h]

/-- Where the drain is complete after the choice, no record has acted and no bank but the one it closes has held a row. -/
theorem DrainedBy.choice_cases (hd : s.mode.sched.draining = true) (h : s.DrainedBy (s.choice ready)) :
    (∀ ptr a, s.choice ready = some (ptr, a) → (∃ b, a = .close b) ∨ ∃ b, a = .refresh b) := by
  intro ptr a hc
  obtain ⟨hqueued, hbanks⟩ := h
  obtain ⟨hinit, -, -⟩ := draining_not_init hd
  have hg := choice_grants hc
  have hmode : (s.begun ready).mode = s.mode := by rw [begun_eq]
  have hmem : ∀ {who older r younger}, (s.begun ready).queueOf who = older ++ r :: younger → r.state = .queued := by
    intro who older r younger hsplit
    rw [begun_queueOf] at hsplit
    exact hqueued r (mem_outstanding.2 ⟨who, by rw [hsplit]; simp⟩)
  cases a with
  | closeAll => exact absurd (hmode ▸ hg.1) hinit
  | condition b => exact absurd (hmode ▸ hg.1) hinit
  | refresh b => exact .inr ⟨b, rfl⟩
  | close b => exact .inl ⟨b, rfl⟩
  | openFor b row =>
    obtain ⟨-, -, -, who, older, r, younger, hsplit, -, -, -, hmay⟩ := hg
    exact absurd (hmem hsplit) (MayAct.not_queued (hmode.symm ▸ hd) hmay)
  | burst who r =>
    obtain ⟨-, -, older, younger, hsplit, hmay⟩ := hg
    exact absurd (hmem hsplit) (MayAct.not_queued (hmode.symm ▸ hd) hmay)

/-- The drain is complete after the command just where the choice leaves it so (R145, R146). -/
theorem commanded_drain (hd : s.mode.sched.draining = true) :
    (s.commanded ready drive).DrainComplete ↔ s.DrainedBy (s.choice ready) := by
  by_cases hquiet : ∀ ptr a, s.choice ready = some (ptr, a) → (∃ b, a = .close b) ∨ ∃ b, a = .refresh b
  · have hno : ∀ ptr who r, s.choice ready ≠ some (ptr, .burst who r) := by
      intro ptr who r hc
      obtain ⟨b, hb⟩ | ⟨b, hb⟩ := hquiet _ _ hc <;> cases hb
    unfold DrainComplete DrainedBy
    rw [commanded_outstanding hno]
    refine and_congr_right fun _ => forall_congr' fun b => ?_
    by_cases hn : ∃ ptr a, s.choice ready = some (ptr, a) ∧ a.Names b
    · obtain ⟨ptr, a, hc, hname⟩ := hn
      rw [commanded_bank hc]
      have hg := choice_grants hc
      obtain ⟨c, rfl⟩ | ⟨c, rfl⟩ := hquiet _ _ hc
      · obtain rfl : c = b := hname
        refine iff_of_true ?_ (.inr ⟨ptr, hc⟩)
        change ((put (s.begun ready).banks c _).get c).openRow? = none
        rw [get_put_self]
        rfl
      · obtain rfl : c = b := hname
        have hclosed : (s.banks.get c).state = .closed := by
          have := hg.2.1
          rwa [begun_eq] at this
        refine iff_of_true ?_ (.inl (openRow?_of_closed hclosed))
        rw [issue, issueRefresh_eq]
        change ((put (s.begun ready).banks c _).get c).openRow? = none
        rw [get_put_self]
        rfl
    · rw [commanded_bank_of_unnamed fun ptr a hc hname => hn ⟨ptr, a, hc, hname⟩]
      refine ⟨.inl, fun h => h.resolve_right ?_⟩
      rintro ⟨ptr, hc⟩
      exact hn ⟨ptr, _, hc, rfl⟩
  · refine iff_of_false (fun hcomplete => hquiet fun ptr a hc => ?_) fun h => hquiet (DrainedBy.choice_cases hd h)
    obtain ⟨hinit, -, -⟩ := draining_not_init hd
    have hmode : (s.begun ready).mode = s.mode := by rw [begun_eq]
    have hg := choice_grants hc
    have hbank := fun b => hcomplete.2 b
    cases a with
    | closeAll => exact absurd (hmode ▸ hg.1) hinit
    | condition b => exact absurd (hmode ▸ hg.1) hinit
    | refresh b => exact .inr ⟨b, rfl⟩
    | close b => exact .inl ⟨b, rfl⟩
    | openFor b row =>
      have hb := hcomplete.2 b
      rw [commanded_bank hc] at hb
      change ((put (s.begun ready).banks b _).get b).openRow? = none at hb
      rw [get_put_self] at hb
      cases hb
    | burst who r =>
      obtain ⟨-, ⟨⟨phys, hopen⟩, -⟩, -⟩ := hg
      have hb := hcomplete.2 r.bank
      rw [commanded_bank hc, issue, issueBurst_get, if_pos rfl] at hb
      unfold Bank.openRow? at hb
      dsimp only at hb
      rw [hopen] at hb
      cases hb

end State

end Sys2Proof.Machine

end

section
/-! PROOFS. A window up to the passing of its timers: the command, the wheel, the counts at the queues and the drain (6.1, 6.2,
3.6, 3.7, 8.6). -/

-- One proof after another: a thread for each would reserve more memory than the check allows.
set_option Elab.async false

namespace Sys2Proof.Machine

variable {s t u : State}

namespace State

theorem takeExpiry_conditioning : s.takeExpiry.refresh.conditioning = s.refresh.conditioning := by
  unfold takeExpiry
  dsimp only
  rw [foldl_keeps (fun u : State => u.refresh.conditioning) _ (fun u b => (retirementCheck_timer b).2)]
  exact foldl_keeps (fun u : State => u.refresh.conditioning) _ (fun u b => expiryAt_conditioning b) _ _

theorem takeFlip_conditioning (ret : ReturnState) :
    (s.takeFlip ret).refresh.conditioning = s.refresh.conditioning := by
  have hflip : s.flipPages.refresh = s.refresh := by rw [flipPages_eq]
  unfold takeFlip
  dsimp only
  rw [afterFlip_eq]
  dsimp only
  split
  · rw [takeExpiry_conditioning, hflip]
  · rw [hflip]

/-- The window up to the passing of its timers (R89, R91, R54, R55, R145). -/
def counted (s : State) (ready : BitVec 4) (drive : Option BurstData) : State :=
  (s.commanded ready drive).advanceWheel.countWindow.settleDrain

variable {ready : BitVec 4} {drive : Option BurstData} {ptr : Requester} {a : Action}

theorem window_counted : s.window ready drive = (s.counted ready drive).takeDue.endWindow := window_eq ready drive

theorem commanded_mode : (s.commanded ready drive).mode = s.mode := by rw [commanded_eq]

theorem commanded_wheel : (s.commanded ready drive).arbiter.wheelPosition = s.arbiter.wheelPosition := by rw [commanded_eq]

theorem commanded_runPage : (s.commanded ready drive).runPage = s.runPage := congrArg (fun m => m.pages.get m.runSelect) commanded_mode

/-- The window flips just where its wheel wrap finds a completed drain after the command (R146). -/
theorem flipsIn_iff : s.FlipsIn ready ↔ ∃ ret, (s.commanded ready drive).FlipsTo ret := by
  have hdrain : ∀ ret, s.mode.sched = .drainSwitch ret →
      ((s.commanded ready drive).DrainComplete ↔ s.DrainedBy (s.choice ready)) := fun ret h => commanded_drain (by rw [h]; rfl)
  unfold FlipsIn FlipsTo Wraps
  rw [commanded_mode, commanded_runPage, commanded_wheel]
  constructor
  · rintro ⟨⟨ret, hs⟩, hw, hd⟩
    exact ⟨ret, hs, hw, (hdrain ret hs).2 hd⟩
  · rintro ⟨ret, hs, hw, hd⟩
    exact ⟨⟨ret, hs⟩, hw, (hdrain ret hs).1 hd⟩

theorem no_flip (h : ¬s.FlipsIn ready) (ret : ReturnState) : ¬(s.commanded ready drive).FlipsTo ret :=
  fun hf => h (flipsIn_iff.2 ⟨ret, hf⟩)

theorem settleDrain_mode : s.settleDrain.mode = s.mode ∨
    s.mode.sched = .drainHold ∧ s.settleDrain.mode = { s.mode with sched := .held } := by
  by_cases h : s.mode.sched = .drainHold ∧ s.DrainComplete
  · refine .inr ⟨h.1, ?_⟩
    rw [settleDrain_of_complete h.1 h.2]
  · refine .inl ?_
    rw [settleDrain_of_not (not_and_or.1 h)]

/-- Without a flip, the queues, the counts of the drain's end and the wheel are all that follows the command. -/
theorem counted_keeps (h : ¬s.FlipsIn ready) : s.counted ready drive = { s.commanded ready drive with
    ports := (s.counted ready drive).ports
    hostQueue := (s.commanded ready drive).hostQueue.map Record.grow
    regions := (s.counted ready drive).regions
    banks := (s.counted ready drive).banks
    arbiter := (s.counted ready drive).arbiter
    mode := (s.counted ready drive).mode
    events := (s.counted ready drive).events } := by
  have hwheel := advanceWheel_keeps (s := s.commanded ready drive) (no_flip h)
  unfold counted
  generalize s.commanded ready drive = v at hwheel ⊢
  generalize v.advanceWheel = w at hwheel ⊢
  have hcount := w.countWindow_eq
  generalize w.countWindow = c at hcount ⊢
  have hsettle := c.settleDrain_eq
  generalize c.settleDrain = d at hsettle ⊢
  rw [hsettle, hcount, hwheel]

theorem counted_mode (h : ¬s.FlipsIn ready) : (s.counted ready drive).mode = s.mode ∨
    s.mode.sched = .drainHold ∧ (s.counted ready drive).mode = { s.mode with sched := .held } := by
  have hmode : (s.commanded ready drive).advanceWheel.countWindow.mode = s.mode := by
    rw [countWindow_eq, advanceWheel_keeps (no_flip h)]
    exact commanded_mode
  have hsettle := (s.commanded ready drive).advanceWheel.countWindow.settleDrain_mode
  rwa [hmode] at hsettle

theorem counted_runPage (h : ¬s.FlipsIn ready) : (s.counted ready drive).runPage = s.runPage := by
  unfold runPage
  obtain hm | ⟨-, hm⟩ := counted_mode (drive := drive) h <;> rw [hm]

theorem counted_running (h : ¬s.FlipsIn ready) : (s.counted ready drive).mode.sched.running = s.mode.sched.running := by
  obtain hm | ⟨hs, hm⟩ := counted_mode (drive := drive) h
  · rw [hm]
  · rw [hm, hs]
    rfl

/-- Whatever the window does, the banks lose pins alone between the command and the passing of the timers. -/
theorem counted_always : (s.counted ready drive).bus = (s.commanded ready drive).bus ∧
    (s.counted ready drive).arbiter.wheelPosition = s.nextPosition ∧
    (s.counted ready drive).arbiter.pointer = (s.commanded ready drive).arbiter.pointer ∧
    (s.counted ready drive).refresh.conditioning = (s.commanded ready drive).refresh.conditioning ∧
    (s.commanded ready drive).PinsLeft (s.counted ready drive) := by
  have hnext : (s.commanded ready drive).nextPosition = s.nextPosition := by
    unfold nextPosition
    rw [commanded_wheel, commanded_runPage]
  have hcond : (s.commanded ready drive).advanceWheel.refresh.conditioning =
      (s.commanded ready drive).refresh.conditioning := by
    by_cases h : ∃ ret, (s.commanded ready drive).FlipsTo ret
    · obtain ⟨ret, hf⟩ := h
      rw [advanceWheel_flips hf]
      exact takeFlip_conditioning ret
    · rw [advanceWheel_keeps fun ret hf => h ⟨ret, hf⟩]
  obtain ⟨hbus, harbiter, hpins⟩ := (s.commanded ready drive).advanceWheel_always
  rw [← hnext, ← hcond]
  unfold counted
  generalize s.commanded ready drive = v at hbus harbiter hpins ⊢
  generalize v.advanceWheel = w at hbus harbiter hpins ⊢
  have hall := hpins.trans (w.countWindow_pinsLeft.trans w.countWindow.settleDrain_pinsLeft)
  have hcount := w.countWindow_eq
  generalize w.countWindow = c at hcount hall ⊢
  have hsettle := c.settleDrain_eq
  generalize c.settleDrain = d at hsettle hall ⊢
  refine ⟨?_, ?_, ?_, ?_, hall⟩
  · rw [hsettle, hcount, hbus]
  · rw [hsettle, hcount, harbiter]
  · rw [hsettle, hcount, harbiter]
  · rw [hsettle, hcount]

/-- The conditioning ends in the window just where its last refresh was about to run out before it: no command of the window
is one that ends it there and then (R127, R128). -/
theorem counted_ends (hp : s.PagesSound) (hc : s.ConditioningSound) :
    (s.counted ready drive).EndsConditioning ↔ s.EndsConditioning := by
  obtain ⟨-, -, -, hcond, hpins⟩ := s.counted_always (ready := ready) (drive := drive)
  obtain ⟨n, -, hbank⟩ := hpins 3
  unfold EndsConditioning
  rw [hcond, hbank]
  change (s.commanded ready drive).refresh.conditioning = .trailing ∧
    ((s.commanded ready drive).banks.get 3).state = .refreshing 0 ↔ _
  cases hx : s.choice ready with
  | none => rw [commanded_of_none hx, begun_eq]
  | some x =>
    obtain ⟨ptr, a⟩ := x
    have hg := choice_grants hx
    have hrefresh : (s.begun ready).refresh = s.refresh := by rw [begun_eq]
    have hmode : (s.begun ready).mode = s.mode := by rw [begun_eq]
    have hrunning : s.mode.sched.running = true → s.refresh.conditioning = .idle := fun hr => by
      by_contra hne
      have := hc.1.2 hne
      rw [this] at hr
      cases hr
    have hquiet : ∀ {P Q : Prop}, s.mode.sched.running = true →
        (s.refresh.conditioning = .trailing ∧ P ↔ s.refresh.conditioning = .trailing ∧ Q) := fun hr => by
      rw [hrunning hr]
      exact iff_of_false (fun h => nomatch h.1) fun h => nomatch h.1
    have hcommanded : (s.commanded ready drive).refresh.conditioning =
        ((s.begun ready).issue drive a).refresh.conditioning := by rw [commanded_of_some hx]
    rw [hcommanded, issue_conditioning, hrefresh]
    cases a with
    | closeAll =>
      have hclearing : s.refresh.conditioning = .clearing := hrefresh ▸ hg.2
      exact iff_of_false (fun h => by cases h.1) fun h => by rw [hclearing] at h; cases h.1
    | condition b =>
      obtain ⟨-, ⟨m, hm, hb⟩, -, -⟩ := hg
      rw [hrefresh] at hm
      refine iff_of_false (fun h => ?_) fun h => by rw [hm] at h; cases h.1
      have hlt := hc.2 m hm
      have hlast : m = 31 := by
        have := h.1
        simp only [hm, Conditioning.next] at this
        split at this
        · cases this
        · omega
      obtain rfl : b = 3 := Fin.ext (by rw [hb, hlast]; rfl)
      have htime : ((s.commanded ready drive).banks.get 3).state = .refreshing s.runPage.refreshTime := by
        rw [commanded_bank hx]
        change ((put (s.begun ready).banks 3 _).get 3).state = _
        rw [get_put_self]
        change BankState.refreshing (s.begun ready).runPage.refreshTime = _
        rw [begun_eq]
        rfl
      have hmin := (hp.1 s.mode.runSelect).refreshTime.1
      rw [htime] at h
      have hzero : s.runPage.refreshTime = 0 := by simpa using h.2
      unfold runPage at hzero
      omega
    | refresh b => exact hquiet (hmode ▸ hg.1)
    | close b => exact hquiet (hmode ▸ hg.1)
    | openFor b row => exact hquiet (hmode ▸ hg.1)
    | burst who r => exact hquiet (hmode ▸ hg.1)

end State

end Sys2Proof.Machine

end

section
/-! PROOFS. A window at the timers: the banks, the refill and the interval (5.2, 5.4, 6.3, 7.2). -/

-- One proof after another: a thread for each would reserve more memory than the check allows.
set_option Elab.async false

namespace Sys2Proof.Machine

variable {s t u : State}

namespace State

variable {ready : BitVec 4} {drive : Option BurstData} {ptr : Requester} {a : Action}

/-! ### The banks after a window -/

theorem PinsLeft.passedTo {k : Bank} {b : BankId} (h : s.PinsLeft t) (hk : (t.banks.get b).PassedTo k) :
    (s.banks.get b).PassedTo k := by
  obtain ⟨n, hn, hb⟩ := h b
  obtain ⟨m, hm, rfl⟩ := hk
  rw [hb] at hm ⊢
  exact ⟨m, hm.trans hn, rfl⟩

/-- At every bank the window's timers pass the entry that its command leaves. -/
theorem window_bank (b : BankId) : ((s.commanded ready drive).banks.get b).PassedTo ((s.window ready drive).banks.get b) := by
  obtain ⟨-, -, -, -, hpins⟩ := s.counted_always (ready := ready) (drive := drive)
  obtain ⟨-, -, -, hpassed⟩ := (s.counted ready drive).ended_always
  exact hpins.passedTo (hpassed b)

theorem window_unnamed {b : BankId} (h : ∀ ptr a, s.choice ready = some (ptr, a) → ¬a.Names b) :
    (s.banks.get b).PassedTo ((s.window ready drive).banks.get b) := by
  have := s.window_bank (ready := ready) (drive := drive) b
  rwa [commanded_bank_of_unnamed h] at this

end State

theorem Bank.PassedTo.fields {k new : Bank} (h : k.PassedTo new) :
    new.state = k.pass.state ∧ new.rowMin = timerPassed k.rowMin ∧ new.writeRecovery = timerPassed k.writeRecovery ∧
      new.closePending = k.closePending := by
  obtain ⟨n, -, rfl⟩ := h
  exact ⟨rfl, k.pass_rowMin, k.pass_writeRecovery, rfl⟩

namespace State

variable {ready : BitVec 4} {drive : Option BurstData} {ptr : Requester} {a : Action}

/-- The bank of a burst: the row stays open, and a WRITE has restarted the write-recovery timer (R80). -/
theorem window_burstBank (hp : s.PagesSound) {who : Requester} {r : Record} (h : s.choice ready = some (ptr, .burst who r)) :
    s.BurstBankPassed (s.window ready drive) r := by
  obtain ⟨-, ⟨⟨phys, hopen⟩, -⟩, -⟩ := choice_grants h
  have hbanks : (s.begun ready).banks = s.banks := by rw [begun_eq]
  have hpage : (s.begun ready).runPage = s.runPage := by rw [begun_eq]; rfl
  rw [hbanks] at hopen
  have hpassed := s.window_bank (ready := ready) (drive := drive) r.bank
  rw [commanded_bank h, issue, issueBurst_get, if_pos rfl, hbanks] at hpassed
  obtain ⟨hstate, hrow, hwrite, hmark⟩ := hpassed.fields
  refine ⟨hstate.trans ?_, hmark, hrow, hwrite.trans ?_⟩
  · exact (Bank.pass_state _).2.2.2.2.2 r.row phys (.inr hopen)
  · unfold burstRecovery
    dsimp only
    rw [hbanks, hpage]
    cases r.kind with
    | read => rfl
    | write =>
      obtain ⟨n, hn⟩ := Nat.exists_eq_add_of_le' (hp.1 s.mode.runSelect).writeRecovery.1
      have hn : s.runPage.writeRecovery = n + 1 := hn
      simp only [hn, timerPassed, Nat.add_sub_cancel]

/-! ### The refill and the interval -/

theorem commanded_credit :
    (∀ ptr a, s.choice ready = some (ptr, a) → a.TakesCredit →
      (s.commanded ready drive).credit = { s.credit with count := s.credit.count - 1 }) ∧
    ((∀ ptr a, s.choice ready = some (ptr, a) → ¬a.TakesCredit) → (s.commanded ready drive).credit = s.credit) := by
  have hbegun : (s.begun ready).credit = s.credit := by rw [begun_eq]
  constructor
  · intro ptr a h ha
    rw [commanded_of_some h, ← hbegun]
    exact issue_credit.1 ha
  · intro hno
    cases h : s.choice ready with
    | none => rw [commanded_of_none h]; exact hbegun
    | some x =>
      rw [commanded_of_some h, ← hbegun]
      exact issue_credit.2 (hno _ _ h)

theorem commanded_bucket : (s.commanded ready drive).credit.refillTimer = s.credit.refillTimer ∧
    (s.commanded ready drive).credit.refillDue = s.credit.refillDue := by
  by_cases h : ∃ ptr a, s.choice ready = some (ptr, a) ∧ a.TakesCredit
  · obtain ⟨ptr, a, hc, ha⟩ := h
    rw [commanded_credit.1 _ _ hc ha]
    exact ⟨rfl, rfl⟩
  · rw [commanded_credit.2 fun ptr a hc ha => h ⟨ptr, a, hc, ha⟩]
    exact ⟨rfl, rfl⟩

theorem commanded_elapsed : (s.commanded ready drive).refresh.elapsed = s.refresh.elapsed := by
  cases h : s.choice ready with
  | none => rw [commanded_of_none h, begun_eq]
  | some x =>
    rw [commanded_of_some h]
    exact issue_elapsed.trans (by rw [begun_eq])

/-- The credit bucket after a window without a flip: the refill that falls in it is taken after its command (R93, R94). -/
theorem window_credit (h : ¬s.FlipsIn ready) : (s.window ready drive).credit =
    (if s.credit.refillDue then (s.commanded ready drive).credit.refilled s.runPage.creditCapacity
      else (s.commanded ready drive).credit).tick s.runPage.refillPeriod := by
  obtain ⟨-, -, hcredit, -⟩ := (s.counted ready drive).ended_always
  have hkeeps : (s.counted ready drive).credit = (s.commanded ready drive).credit := by rw [counted_keeps h]
  rw [window_counted, hcredit, refill_credit, counted_runPage h, hkeeps, commanded_bucket.2]

/-- The interval count after a window without a flip (R112). -/
theorem window_elapsed (h : ¬s.FlipsIn ready) (hp : s.PagesSound) (hc : s.ConditioningSound) :
    (s.window ready drive).refresh.elapsed =
      if s.mode.sched.running then
        if s.runPage.refreshInterval ≤ s.refresh.elapsed then 1 else s.refresh.elapsed + 1
      else if s.refresh.conditioning = .trailing ∧ (s.banks.get 3).state = .refreshing 0 then 1 else s.refresh.elapsed := by
  have hends := counted_ends (ready := ready) (drive := drive) hp hc
  have hrunning := counted_running (drive := drive) h
  have hpage := counted_runPage (drive := drive) h
  have helapsed : (s.counted ready drive).refresh.elapsed = s.refresh.elapsed := by
    rw [counted_keeps h]
    exact commanded_elapsed
  rw [window_counted]
  generalize s.counted ready drive = v at hends hrunning hpage helapsed ⊢
  by_cases he : s.refresh.conditioning = .trailing ∧ (s.banks.get 3).state = .refreshing 0
  · have hinit : s.mode.sched = .init := hc.1.2 (by rw [he.1]; simp)
    have hinterval : 0 < v.runPage.refreshInterval := by
      have := (hp.1 s.mode.runSelect).refreshInterval.1
      rw [hpage]
      exact lt_of_lt_of_le (by decide) this
    rw [ended_conditioning (hends.2 he) hinterval, endConditioning_eq, if_pos he, hinit]
    rfl
  · have hno := fun hv => he (hends.1 hv)
    rw [if_neg he]
    cases hr : s.mode.sched.running with
    | false =>
      rw [hr] at hrunning
      rw [ended_quiet hno fun hv => absurd (hrunning.symm.trans hv) (by decide), passed]
      simp only [hrunning, helapsed]
      rfl
    | true =>
      rw [hr] at hrunning
      by_cases hd : s.runPage.refreshInterval ≤ s.refresh.elapsed
      · rw [ended_expiry hno (expiryDue_iff.2 ⟨hrunning, by rw [hpage, helapsed]; exact hd⟩), if_pos rfl, if_pos hd]
        have hframe := v.runOutAll.refill.takeExpiry_eq
        have hzero : v.runOutAll.refill.takeExpiry.refresh.elapsed = 0 := rfl
        have hmode : v.runOutAll.refill.takeExpiry.mode = v.mode := by rw [hframe, refill_eq]; rfl
        unfold endWindow
        simp only [hmode, hrunning, if_true, hzero]
      · rw [ended_quiet hno fun _ => by rw [hpage, helapsed]; exact not_le.1 hd, passed, if_pos rfl, if_neg hd]
        simp only [hrunning, helapsed]
        rfl

end State

end Sys2Proof.Machine

open Sys2Proof Sys2Proof.Machine

/-- Settles O54: at every bank the timers pass what the command leaves, and the bucket and the interval count the window. -/
theorem windowPassesAtTimers : Obligations.WindowPassesAtTimers := by
  intro s ready drive hr
  refine ⟨_, exec_windowDecision hr ready drive, fun b hno => ?_, fun hp ptr who r h => State.window_burstBank hp h,
    fun hf hp hc => ⟨fun hdue => ?_, fun hdue => ?_, fun hno => ?_, fun hrun => ?_, fun hrun => ?_⟩⟩
  · obtain ⟨hstate, hrow, hwrite, hmark⟩ := (State.window_unnamed (drive := drive) hno).fields
    obtain ⟨hopening, hopened, hclosing, hrefreshing, hclosed, hkept⟩ := (s.banks.get b).pass_state
    dsimp only
    rw [hstate]
    exact ⟨hopening, hopened, hclosing, hrefreshing, hclosed, hkept, hrow, hwrite, hmark⟩
  · obtain ⟨htimer, hmark⟩ := s.commanded_bucket (ready := ready) (drive := drive)
    rw [State.window_credit hf, if_neg (by simp [hdue])]
    simp [CreditBucket.tick, htimer, hmark, hdue]
  · rw [State.window_credit hf, if_pos hdue]
    simp [CreditBucket.tick, CreditBucket.refilled]
  · rw [State.window_credit hf, State.commanded_credit.2 hno]
    cases s.credit.refillDue <;> simp [CreditBucket.tick, CreditBucket.refilled]
  · rw [State.window_elapsed hf hp hc, hrun, if_pos rfl]
  · rw [State.window_elapsed hf hp hc, hrun, if_neg (by decide)]

end

section
/-! PROOFS. The bank operation that a window starts, and the accounts it pays (5.3, 7.3, 7.4, 7.8). -/

-- One proof after another: a thread for each would reserve more memory than the check allows.
set_option Elab.async false

namespace Sys2Proof.Machine

variable {s t u : State}

/-! ### An entry that the command has just set -/

theorem Bank.pass_opening {k : Bank} {row : Fin 2048} {phys n : Nat} (hs : k.state = .opening row phys n) (hn : 1 ≤ n) :
    k.pass.state = .opening row phys (n - 1) := by
  obtain ⟨m, rfl⟩ := Nat.exists_eq_add_of_le' hn
  exact k.pass_state.1 row phys m hs

theorem Bank.pass_closing {k : Bank} {n : Nat} (hs : k.state = .closing n) (hn : 1 ≤ n) : k.pass.state = .closing (n - 1) := by
  obtain ⟨m, rfl⟩ := Nat.exists_eq_add_of_le' hn
  exact k.pass_state.2.2.1 m hs

theorem Bank.pass_refreshing {k : Bank} {n : Nat} (hs : k.state = .refreshing n) (hn : 1 ≤ n) :
    k.pass.state = .refreshing (n - 1) := by
  obtain ⟨m, rfl⟩ := Nat.exists_eq_add_of_le' hn
  exact k.pass_state.2.2.2.1 m hs

theorem timerPassed_of_pos {n : Nat} (hn : 1 ≤ n) : timerPassed (some n) = some (n - 1) := by
  obtain ⟨m, rfl⟩ := Nat.exists_eq_add_of_le' hn
  rfl

namespace State

variable {ready : BitVec 4} {drive : Option BurstData} {ptr : Requester} {a : Action} {b : BankId}

/-! ### The accounts, the conditioning and the past of rows after a window -/

/-- A refresh pays in the decision as it pays in the state before it (R117). -/
theorem commanded_refresh_engine (h : s.choice ready = some (ptr, .refresh b)) :
    (s.paidBy (s.choice ready)).SameEngine (s.commanded ready drive) := by
  have hbegun : s.SameEngine (s.begun ready) := by
    rw [begun_eq]
    exact ⟨rfl, rfl, rfl⟩
  have hpaid : ((s.begun ready).modAccount b Account.pay |>.retirementCheck b).SameEngine ((s.begun ready).issueRefresh b) :=
    issueRefresh_sameEngine b
  have hsame := (hbegun.modAccount b Account.pay).retirementCheck b
  obtain ⟨hacc, hregions, hdram⟩ := hsame
  obtain ⟨hacc', hregions', hdram'⟩ := hpaid
  rw [commanded_of_some h, h]
  exact ⟨hacc'.trans hacc, hregions'.trans hregions, hdram'.trans hdram⟩

theorem paidBy_of_no_refresh {c : Option (Requester × Action)} (h : ∀ ptr b, c ≠ some (ptr, .refresh b)) : s.paidBy c = s := by
  unfold paidBy
  split
  next ptr b => exact absurd rfl (h ptr b)
  · rfl

/-- The accounts after the command (R117). -/
theorem commanded_accounts :
    (s.commanded ready drive).refresh.accounts = (s.paidBy (s.choice ready)).refresh.accounts := by
  by_cases h : ∃ ptr b, s.choice ready = some (ptr, .refresh b)
  · obtain ⟨ptr, b, h⟩ := h
    exact (commanded_refresh_engine h).1
  · rw [paidBy_of_no_refresh fun ptr b hc => h ⟨ptr, b, hc⟩]
    have hbegun : (s.begun ready).refresh = s.refresh := by rw [begun_eq]
    cases hc : s.choice ready with
    | none => rw [commanded_of_none hc, ← hbegun]
    | some x =>
      rw [commanded_of_some hc, ← hbegun]
      exact issue_accounts fun b hb => h ⟨x.1, b, by rw [hc, ← hb]⟩

/-- The accounts after a window in which no interval expires: what its command leaves. -/
theorem counted_accounts (hf : ¬s.FlipsIn ready) :
    (s.counted ready drive).refresh.accounts = (s.paidBy (s.choice ready)).refresh.accounts := by
  rw [← commanded_accounts (drive := drive), counted_keeps hf]

theorem counted_noExpiry (hf : ¬s.FlipsIn ready) (hx : s.NoExpiry) : (s.counted ready drive).NoExpiry := by
  have helapsed : (s.counted ready drive).refresh.elapsed = s.refresh.elapsed := by
    rw [counted_keeps hf]
    exact commanded_elapsed
  unfold NoExpiry
  rw [counted_running hf, counted_runPage hf, helapsed]
  exact hx

/-- A window in which nothing expires and the conditioning does not end. -/
theorem window_quiet (hp : s.PagesSound) (hc : s.ConditioningSound) (hf : ¬s.FlipsIn ready) (hx : s.NoExpiry)
    (he : ¬s.EndsConditioning) : s.window ready drive = (s.counted ready drive).passed := by
  rw [window_counted, ended_quiet (fun h => he ((counted_ends hp hc).1 h)) (counted_noExpiry hf hx)]

theorem not_ends_of_running (hc : s.ConditioningSound) (h : s.mode.sched.running = true) : ¬s.EndsConditioning := fun he => by
  have hinit : s.mode.sched = .init := hc.1.2 (by rw [he.1]; simp)
  rw [hinit] at h
  cases h

theorem not_flips_of_init (h : s.mode.sched = .init) : ¬s.FlipsIn ready := fun ⟨⟨_, hs⟩, _⟩ => by
  rw [hs] at h
  cases h

theorem noExpiry_of_init (h : s.mode.sched = .init) : s.NoExpiry := fun hr => by
  rw [h] at hr
  cases hr

/-- The mode that a choice rests on (R90, R107). -/
theorem choice_mode (h : s.choice ready = some (ptr, a)) :
    match a with
    | .closeAll => s.mode.sched = .init ∧ s.refresh.conditioning = .clearing
    | .condition _ => s.mode.sched = .init ∧ ∃ n, s.refresh.conditioning = .conditioning n
    | _ => s.mode.sched.running = true := by
  have hg := choice_grants h
  rw [begun_eq] at hg
  cases a with
  | closeAll => exact hg
  | condition b =>
    obtain ⟨hinit, ⟨n, hn, -⟩, -⟩ := hg
    exact ⟨hinit, n, hn⟩
  | refresh b => exact hg.1
  | close b => exact hg.1
  | openFor b row => exact hg.1
  | burst who r => exact hg.1

/-- A command of the conditioning is not the last of it, and no command of a running state is (R127, R128). -/
theorem not_ends_of_choice (hc : s.ConditioningSound) (h : s.choice ready = some (ptr, a)) : ¬s.EndsConditioning := by
  have hm := choice_mode h
  cases a with
  | closeAll => exact fun he => by rw [he.1] at hm; cases hm.2
  | condition b =>
    obtain ⟨-, n, hn⟩ := hm
    exact fun he => by rw [he.1] at hn; cases hn
  | refresh b => exact not_ends_of_running hc hm
  | close b => exact not_ends_of_running hc hm
  | openFor b row => exact not_ends_of_running hc hm
  | burst who r => exact not_ends_of_running hc hm

theorem ended_kept (h : ¬s.EndsConditioning) : s.takeDue.endWindow.history = s.history ∧
    s.takeDue.endWindow.refresh.conditioning = s.refresh.conditioning := by
  have htake : s.takeDue = s.runOutAll.refill.intervalExpiry := by rw [takeDue, runOuts_eq h]
  have hcond : s.runOutAll.refill.intervalExpiry.refresh.conditioning = s.refresh.conditioning := by
    unfold intervalExpiry
    split
    · rw [takeExpiry_conditioning, refill_eq]
      rfl
    · rw [refill_eq]
      rfl
  have hframe := s.runOutAll.refill.intervalExpiry_keeps.1
  rw [htake]
  refine ⟨?_, hcond⟩
  change s.runOutAll.refill.intervalExpiry.history = s.history
  rw [hframe, refill_eq]
  rfl

theorem counted_history : (s.counted ready drive).history = (s.commanded ready drive).history := by
  have hwheel : (s.commanded ready drive).advanceWheel.history = (s.commanded ready drive).history := by
    by_cases h : ∃ ret, (s.commanded ready drive).FlipsTo ret
    · obtain ⟨ret, hf⟩ := h
      have hflip := (s.commanded ready drive).wrapped.flipPages_eq
      rw [advanceWheel_flips hf]
      unfold takeFlip
      dsimp only
      rw [afterFlip_eq]
      dsimp only
      split
      · rw [takeExpiry_eq, hflip]
        rfl
      · rw [hflip]
        rfl
    · rw [advanceWheel_keeps fun ret hf => h ⟨ret, hf⟩]
  rw [← hwheel]
  unfold counted
  rw [settleDrain_eq, countWindow_eq]

/-- What a window with a command leaves of the conditioning and of the past of rows is what the command leaves. -/
theorem window_kept (hp : s.PagesSound) (hc : s.ConditioningSound) (he : ¬s.EndsConditioning) :
    (s.window ready drive).history = (s.commanded ready drive).history ∧
      (s.window ready drive).refresh.conditioning = (s.commanded ready drive).refresh.conditioning := by
  obtain ⟨-, -, -, hcond, -⟩ := s.counted_always (ready := ready) (drive := drive)
  obtain ⟨hhist, hcond'⟩ := ended_kept fun h => he ((counted_ends (ready := ready) (drive := drive) hp hc).1 h)
  rw [window_counted]
  exact ⟨hhist.trans counted_history, hcond'.trans hcond⟩

/-- The credit count after a window whose command takes a credit (R93, R94). -/
theorem window_credit_taken (hf : ¬s.FlipsIn ready) (h : s.choice ready = some (ptr, a)) (ha : a.TakesCredit) :
    (s.window ready drive).credit.count =
      if s.credit.refillDue = true ∧ s.credit.count - 1 < s.runPage.creditCapacity then s.credit.count - 1 + 1
      else s.credit.count - 1 := by
  rw [window_credit hf, commanded_credit.1 _ _ h ha]
  cases s.credit.refillDue <;> simp [CreditBucket.tick, CreditBucket.refilled]

theorem window_accounts (hp : s.PagesSound) (hc : s.ConditioningSound) (h : s.choice ready = some (ptr, a))
    (hq : s.NoExpiry ∧ ¬s.FlipsIn ready) :
    (s.window ready drive).refresh.accounts = (s.paidBy (s.choice ready)).refresh.accounts := by
  rw [window_quiet hp hc hq.2 hq.1 (not_ends_of_choice hc h)]
  exact counted_accounts hq.2

/-! ### A payment -/

theorem retirementCheck_of_not (h : s.mayRetire b = false) : s.retirementCheck b = s := by
  unfold retirementCheck
  cases (s.account b).debt.toNat with
  | zero => rfl
  | succ n =>
    rw [retireUpTo, h]
    rfl

/-- The account of a bank after a payment that leaves nothing to retire (R117, R119). -/
theorem paid_account (h : (s.account b).pay.debt ≤ 0 ∨
      needsRefresh (classOf s.regions b (s.account b).pay.pointer) (s.account b).pay.oddPass = true) :
    ((s.modAccount b Account.pay).retirementCheck b).account b = (s.account b).pay := by
  have hself : (s.modAccount b Account.pay).account b = (s.account b).pay := modAccount_account_self ..
  rw [retirementCheck_of_not, hself]
  rw [← Bool.not_eq_true, mayRetire_iff, pointerNeedsRefresh, hself]
  rintro ⟨hd, hn⟩
  obtain h | h := h
  · omega
  · exact absurd (h.symm.trans hn) (by decide)

theorem paid_account_of_ne {c : BankId} (h : c ≠ b) :
    ((s.modAccount b Account.pay).retirementCheck b).account c = s.account c := by
  rw [retirementCheck_account_of_ne h.symm, modAccount_account, if_neg h.symm]

theorem noteRefresh_freed (b c : BankId) (g : Nat) (k : Fin 16) : ((s.noteRefresh b g).history.freed.get c).get k = true ↔
    (s.history.freed.get c).get k = true ∧ ¬(c = b ∧ g = 128) := by
  change ((if g = 128 then put s.history.freed b (Vector.replicate 16 false) else s.history.freed).get c).get k = true ↔ _
  by_cases hg : g = 128
  · rw [if_pos hg, get_put]
    by_cases hb : b = c
    · rw [if_pos hb, get_replicate]
      exact iff_of_false (by decide) fun h => h.2 ⟨hb.symm, hg⟩
    · rw [if_neg hb]
      exact ⟨fun h => ⟨h, fun hc => hb hc.1.symm⟩, fun h => h.1⟩
  · rw [if_neg hg]
    exact ⟨fun h => ⟨h, fun hc => hg hc.2⟩, fun h => h.1⟩

theorem noteRefresh_unrefreshed (b : BankId) (g : Nat) (i : Fin 8) :
    (s.noteRefresh b g).history.unrefreshed.get i = true ↔ s.history.unrefreshed.get i = true ∧
      ¬((s.remap.get i).bank = b ∧ (s.remap.get i).faultyRow.val / 16 = g ∧ classOf s.regions b g ≠ .off) := by
  have hget : (s.noteRefresh b g).history.unrefreshed.get i = (s.history.unrefreshed.get i &&
      !((s.remap.get i).bank == b && groupOf (s.remap.get i).faultyRow == g && classOf s.regions b g != .off)) := by
    simp [noteRefresh, Vector.get_eq_getElem]
  rw [hget]
  simp only [Bool.and_eq_true, Bool.not_eq_true', ← Bool.not_eq_true, beq_iff_eq, bne_iff_ne, groupOf, and_assoc]

/-- What a refresh leaves of the past of rows (R12). -/
theorem commanded_refresh_history (h : s.choice ready = some (ptr, .refresh b)) :
    (s.commanded ready drive).history = (s.noteRefresh b (s.account b).pointer).history := by
  rw [commanded_of_some h]
  change ((s.begun ready).issueRefresh b).history = _
  rw [issueRefresh_eq, begun_eq]
  rfl

end State

theorem Account.pay_eq (k : Account) : k.pay =
    if k.pointer < 128 then { debt := k.debt - 1, pointer := k.pointer + 1, oddPass := k.oddPass }
    else { debt := k.debt - 1, pointer := 0, oddPass := !k.oddPass } := by
  unfold Account.pay Account.stepPointer
  split <;> rfl

end Sys2Proof.Machine

open Sys2Proof Sys2Proof.Machine

/-- Settles O55: the command sets the entry of its bank, and the window passes at what it has set. -/
theorem windowStartsBankOperation : Obligations.WindowStartsBankOperation := by
  intro s ready drive ptr a hr hp hc h page old
  have hpage := hp.1 s.mode.runSelect
  have hbank := fun b => s.window_bank (ready := ready) (drive := drive) b
  have hcommanded := fun b => State.commanded_bank (drive := drive) h b
  have hbegun : (s.begun ready).banks = s.banks ∧ (s.begun ready).runPage = s.runPage := by
    rw [State.begun_eq]
    exact ⟨rfl, rfl⟩
  have hkept := State.window_kept (ready := ready) (drive := drive) hp hc (State.not_ends_of_choice hc h)
  have haccounts := State.window_accounts (drive := drive) hp hc h
  have hunpaid : (∀ b, a ≠ .refresh b) → s.NoExpiry ∧ ¬s.FlipsIn ready →
      (s.window ready drive).refresh.accounts = s.refresh.accounts := fun hno hq => by
    rw [haccounts hq, State.paidBy_of_no_refresh]
    intro ptr' b hb
    rw [show s.choice ready = _ from h] at hb
    cases hb
    exact hno b rfl
  refine ⟨_, exec_windowDecision hr ready drive, ?_⟩
  cases a with
  | openFor b row =>
    have hset := hbank b
    rw [hcommanded b] at hset
    change ((put (s.begun ready).banks b _).get b).PassedTo _ at hset
    rw [get_put_self, hbegun.1, hbegun.2] at hset
    obtain ⟨hstate, hrow, hwrite, hmark⟩ := hset.fields
    refine ⟨hstate.trans ?_, hrow.trans (timerPassed_of_pos hpage.rowMin.1), hwrite, hmark,
      fun hf => State.window_credit_taken hf h trivial, hunpaid fun _ => nofun⟩
    refine Bank.pass_opening ?_ hpage.openDelay.1
    rw [State.begun_eq]
    rfl
  | close b =>
    have hset := hbank b
    rw [hcommanded b] at hset
    change ((put (s.begun ready).banks b _).get b).PassedTo _ at hset
    rw [get_put_self, hbegun.1, hbegun.2] at hset
    obtain ⟨hstate, hrow, hwrite, hmark⟩ := hset.fields
    exact ⟨hstate.trans (Bank.pass_closing rfl hpage.closeDelay.1), hmark, hrow, hwrite, hunpaid fun _ => nofun⟩
  | refresh b =>
    have hset := hbank b
    rw [hcommanded b, State.issue, State.issueRefresh_eq] at hset
    change ((put (s.begun ready).banks b _).get b).PassedTo _ at hset
    rw [get_put_self, hbegun.1, hbegun.2] at hset
    obtain ⟨hstate, hrow, hwrite, hmark⟩ := hset.fields
    have hpaid : s.NoExpiry ∧ ¬s.FlipsIn ready → ∀ c, (s.window ready drive).account c =
        ((s.modAccount b Account.pay).retirementCheck b).account c := fun hq c => by
      have := congrArg (fun v : Vector Account 4 => v.get c) (haccounts hq)
      rw [show s.choice ready = _ from h] at this
      exact this
    have hhistory := hkept.1.trans (State.commanded_refresh_history h)
    refine ⟨hstate.trans (Bank.pass_refreshing rfl (le_trans (by decide) hpage.refreshTime.1)),
      fun hf => State.window_credit_taken hf h trivial, ⟨hrow, hwrite, hmark⟩, fun hq => ?_, fun hq c hcb => ?_, fun hq hn => ?_,
      fun c k => ?_, fun i => ?_⟩
    · rw [haccounts hq]
      exact congrArg (fun x => (s.paidBy x).refresh.accounts) h
    · rw [hpaid hq c, State.paid_account_of_ne hcb]
    · rw [← Account.pay_eq] at hn ⊢
      rw [hpaid hq b, State.paid_account hn]
    · rw [hhistory]
      exact State.noteRefresh_freed ..
    · rw [hhistory]
      exact State.noteRefresh_unrefreshed ..
  | condition b =>
    have hset := hbank b
    rw [hcommanded b] at hset
    change ((put (s.begun ready).banks b _).get b).PassedTo _ at hset
    rw [get_put_self, hbegun.1, hbegun.2] at hset
    obtain ⟨hstate, hrow, hwrite, hmark⟩ := hset.fields
    obtain ⟨hinit, -⟩ := State.choice_mode h
    refine ⟨hstate.trans (Bank.pass_refreshing rfl (le_trans (by decide) hpage.refreshTime.1)),
      fun hf => State.window_credit_taken hf h trivial, ⟨hrow, hwrite, hmark⟩,
      hunpaid (fun _ => nofun) ⟨State.noExpiry_of_init hinit, State.not_flips_of_init hinit⟩, fun n hn => ?_⟩
    rw [hkept.2, State.commanded_of_some h]
    refine State.issue_conditioning.trans ?_
    rw [State.begun_eq]
    simp only [hn, Conditioning.next]
  | closeAll =>
    refine ⟨fun b => ?_, ?_⟩
    · obtain ⟨n, hn, hset⟩ := hbank b
      have hk : (s.commanded ready drive).banks.get b = Bank.closeAll s.runPage (s.banks.get b) := by
        rw [hcommanded b, ← hbegun.1, ← hbegun.2]
        exact get_map ..
      rw [hk] at hn hset
      obtain rfl : n = 0 := Nat.le_zero.1 hn
      have hstate := Bank.pass_closing (k := Bank.closeAll s.runPage (s.banks.get b)) rfl
        (le_trans hpage.closeDelay.1 (le_max_left _ _))
      rw [hset]
      dsimp only
      rw [hstate]
      rfl
    · rw [hkept.2, State.commanded_of_some h]
      exact State.issue_conditioning
  | burst who r => trivial

end

section
/-! PROOFS. The window that flips the pages (8.6): the choice that leaves the drain complete, the flip on its accounts, and the
passing of the timers on the new page. -/

-- One proof after another: a thread for each would reserve more memory than the check allows.
set_option Elab.async false

namespace Sys2Proof.Machine

variable {s t u : State}

namespace State

/-! ### An expiry and a flip where every record is QUEUED -/

theorem suspendBank_of_queued (hq : ∀ r ∈ s.outstanding, r.state = .queued) (b : BankId) :
    s.suspendBank b = { s with banks := (s.suspendBank b).banks } := by
  have hid : ∀ r : Record, r.state = .queued → Record.suspend b r = r := fun r hr => by
    simp [Record.suspend, Record.isActive, hr]
  obtain ⟨hports, hhost⟩ := s.map_queued hid hq
  change { s with
    ports := s.ports.map fun k : Port => { k with queue := k.queue.map (Record.suspend b) }
    hostQueue := s.hostQueue.map (Record.suspend b), banks := (s.suspendBank b).banks } = _
  rw [hports, hhost]

theorem expiryAt_of_queued (hq : ∀ r ∈ s.outstanding, r.state = .queued) (b : BankId) : s.expiryAt b = { s with
    banks := (s.expiryAt b).banks, refresh := (s.expiryAt b).refresh, events := (s.expiryAt b).events } := by
  unfold expiryAt
  dsimp only
  split
  · split
    · rw [post_eq, suspendBank_of_queued (s := s.modAccount b _) hq]
      rfl
    · rfl
  · rw [post_eq]

theorem expiries_of_queued (l : List BankId) (hq : ∀ r ∈ s.outstanding, r.state = .queued) :
    l.foldl expiryAt s = { s with
      banks := (l.foldl expiryAt s).banks, refresh := (l.foldl expiryAt s).refresh, events := (l.foldl expiryAt s).events } := by
  induction l generalizing s with
  | nil => rfl
  | cons b l ih =>
    have hone := expiryAt_of_queued hq b
    have hout : (s.expiryAt b).outstanding = s.outstanding := by rw [hone]; rfl
    rw [List.foldl_cons, ih (hout ▸ hq), hone]

/-- No record is there to suspend (R112). -/
theorem takeExpiry_of_queued (hq : ∀ r ∈ s.outstanding, r.state = .queued) : s.takeExpiry = { s with
    banks := s.takeExpiry.banks, refresh := s.takeExpiry.refresh, events := s.takeExpiry.events, dram := s.takeExpiry.dram } := by
  unfold takeExpiry
  dsimp only
  rw [retirements_eq, expiries_of_queued allBanks hq]

/-- A flip on a drained queue (R147). -/
theorem takeFlip_of_queued (hq : ∀ r ∈ s.outstanding, r.state = .queued) (ret : ReturnState) : s.takeFlip ret = { s with
    mode := s.mode.flipped ret
    credit := s.flippedCredit
    arbiter := { s.arbiter with wheelPosition := 0 }
    banks := (s.takeFlip ret).banks, refresh := (s.takeFlip ret).refresh, events := (s.takeFlip ret).events
    dram := (s.takeFlip ret).dram } := by
  have hflip := s.flipPages_eq
  unfold takeFlip
  dsimp only
  rw [afterFlip_eq]
  generalize s.flipPages = f at hflip
  have hout : f.outstanding = s.outstanding := by rw [hflip]; rfl
  dsimp only
  split
  · have hx := takeExpiry_of_queued (s := f) (hout ▸ hq)
    generalize f.takeExpiry = v at hx ⊢
    rw [hx, hflip]
    rfl
  · rw [hflip]
    rfl

/-- After a flip the interval timer stands below the new page's interval (R131). -/
theorem takeFlip_noExpiry (hi : 0 < s.editPage.refreshInterval)
    (ret : ReturnState) : (s.takeFlip ret).refresh.elapsed < s.editPage.refreshInterval := by
  by_cases h : s.refresh.elapsed < s.editPage.refreshInterval
  · rw [takeFlip_of_lt h]
    exact h
  · have hyes : s.flipPages.runPage.refreshInterval ≤ s.flipPages.refresh.elapsed := by
      rw [flipPages_runPage, flipPages_eq]
      exact not_lt.1 h
    unfold takeFlip
    dsimp only
    rw [if_pos hyes, afterFlip_eq]
    exact hi

variable {ready : BitVec 4} {drive : Option BurstData} {ptr : Requester} {a : Action} {b : BankId} {ret : ReturnState}

/-! ### The command of a window that flips -/

/-- The choice of a window that flips closes a bank or refreshes one, if it is any (R146). -/
theorem FlipsIn.choice (hf : s.FlipsIn ready) (hc : s.choice ready = some (ptr, a)) :
    (∃ b, a = .close b) ∨ ∃ b, a = .refresh b := by
  obtain ⟨⟨ret, hs⟩, -, hd⟩ := hf
  exact hd.choice_cases (by rw [hs]; rfl) ptr a hc

theorem FlipsIn.no_burst (hf : s.FlipsIn ready) (ptr who : Requester) (r : Record) :
    s.choice ready ≠ some (ptr, .burst who r) := fun hc => by
  obtain ⟨_, h⟩ | ⟨_, h⟩ := hf.choice hc <;> cases h

theorem FlipsIn.no_closeAll (hf : s.FlipsIn ready) (ptr : Requester) : s.choice ready ≠ some (ptr, .closeAll) := fun hc => by
  obtain ⟨_, h⟩ | ⟨_, h⟩ := hf.choice hc <;> cases h

/-- Without a burst and a CLOSE-ALL, the command leaves every pin (R71, R78). -/
theorem commanded_pins (hb : ∀ ptr who r, s.choice ready ≠ some (ptr, .burst who r))
    (hall : ∀ ptr, s.choice ready ≠ some (ptr, .closeAll)) (b : BankId) :
    ((s.commanded ready drive).banks.get b).pins = (s.banks.get b).pins := by
  have hbanks : (s.begun ready).banks = s.banks := by rw [begun_eq]
  by_cases hn : ∃ ptr a, s.choice ready = some (ptr, a) ∧ a.Names b
  · obtain ⟨ptr, a, hc, hname⟩ := hn
    rw [commanded_bank hc, ← hbanks]
    cases a with
    | closeAll => exact absurd hc (hall ptr)
    | burst who r => exact absurd hc (hb ptr who r)
    | condition c =>
      obtain rfl : c = b := hname
      change ((put (s.begun ready).banks c _).get c).pins = _
      rw [get_put_self]
    | refresh c =>
      obtain rfl : c = b := hname
      rw [issue, issueRefresh_eq]
      change ((put (s.begun ready).banks c _).get c).pins = _
      rw [get_put_self]
    | close c =>
      obtain rfl : c = b := hname
      change ((put (s.begun ready).banks c _).get c).pins = _
      rw [get_put_self]
    | openFor c row =>
      obtain rfl : c = b := hname
      change ((put (s.begun ready).banks c _).get c).pins = _
      rw [get_put_self]
  · rw [commanded_bank_of_unnamed fun ptr a hc hname => hn ⟨ptr, a, hc, hname⟩]

/-- Where no burst is issued, the rank changes as the payment of a refresh has it (R68). -/
theorem commanded_dram (hb : ∀ ptr who r, s.choice ready ≠ some (ptr, .burst who r)) :
    (s.commanded ready drive).dram = (s.paidBy (s.choice ready)).dram := by
  by_cases h : ∃ ptr b, s.choice ready = some (ptr, .refresh b)
  · obtain ⟨ptr, b, h⟩ := h
    exact (commanded_refresh_engine h).2.2
  · rw [paidBy_of_no_refresh fun ptr b hc => h ⟨ptr, b, hc⟩]
    have hbegun : (s.begun ready).dram = s.dram := by rw [begun_eq]
    cases hc : s.choice ready with
    | none => rw [commanded_of_none hc, ← hbegun]
    | some x =>
      rw [commanded_of_some hc, ← hbegun]
      exact issue_dram (fun b ha => h ⟨x.1, b, by rw [hc, ← ha]⟩) fun who r ha => hb x.1 who r (by rw [hc, ← ha])

/-! ### The window of a flip -/

/-- The state after the flip of the window (R147). -/
def flipped (s : State) (ready : BitVec 4) (drive : Option BurstData) (ret : ReturnState) : State :=
  (s.commanded ready drive).wrapped.takeFlip ret

/-- Before the flip: what the command leaves, with the wheel at its wrap. -/
theorem FlipsIn.before (hf : s.FlipsIn ready) : (s.commanded ready drive).wrapped = { s with
    ports := (s.begun ready).ports, banks := (s.commanded ready drive).banks
    refresh := (s.commanded ready drive).refresh, credit := (s.commanded ready drive).credit
    arbiter := (s.commanded ready drive).wrapped.arbiter, bus := (s.commanded ready drive).bus
    dram := (s.commanded ready drive).dram, history := (s.commanded ready drive).history, decided := false } := by
  have h := commanded_eq_of_no_burst (drive := drive) hf.no_burst
  generalize s.commanded ready drive = v at h ⊢
  unfold wrapped
  rw [h]

theorem FlipsIn.queued (hf : s.FlipsIn ready) : ∀ r ∈ (s.commanded ready drive).wrapped.outstanding, r.state = .queued := by
  have hout : (s.commanded ready drive).wrapped.outstanding = s.outstanding := commanded_outstanding hf.no_burst
  rw [hout]
  exact hf.2.2.1

theorem flipped_eq (hf : s.FlipsIn ready) : s.flipped ready drive ret = { s with
    ports := (s.begun ready).ports, mode := s.mode.flipped ret, decided := false
    banks := (s.flipped ready drive ret).banks, refresh := (s.flipped ready drive ret).refresh
    credit := (s.flipped ready drive ret).credit, arbiter := (s.flipped ready drive ret).arbiter
    events := (s.flipped ready drive ret).events, bus := (s.commanded ready drive).bus
    dram := (s.flipped ready drive ret).dram, history := (s.commanded ready drive).history } := by
  have hflip := takeFlip_of_queued (hf.queued (drive := drive)) ret
  have hbefore := hf.before (drive := drive)
  unfold flipped
  generalize (s.commanded ready drive).wrapped.takeFlip ret = f at hflip ⊢
  generalize (s.commanded ready drive).wrapped = v at hflip hbefore
  rw [hflip, hbefore]

theorem flipped_runPage (hf : s.FlipsIn ready) : (s.flipped ready drive ret).runPage = s.editPage := by
  rw [flipped_eq hf]
  rfl

theorem flipped_running (hf : s.FlipsIn ready) : (s.flipped ready drive ret).mode.sched.running = true := by
  rw [flipped_eq hf]
  cases ret <;> rfl

theorem flipped_noExpiry (hp : s.PagesSound) (hf : s.FlipsIn ready) : (s.flipped ready drive ret).NoExpiry := by
  have hedit : (s.commanded ready drive).wrapped.editPage = s.editPage := by
    rw [hf.before]
    rfl
  have hlt := takeFlip_noExpiry (s := (s.commanded ready drive).wrapped)
    (by rw [hedit]; exact lt_of_lt_of_le (by decide) (hp.1 s.editSelect).refreshInterval.1) ret
  rw [hedit] at hlt
  intro _
  rw [flipped_runPage hf]
  exact hlt

theorem flipped_stallsBelow (hf : s.FlipsIn ready) : (s.flipped ready drive ret).StallsBelow := by
  intro p _ r hr n hn
  have hq : r.state = .queued := by
    rw [flipped_eq hf] at hr
    dsimp only at hr
    rw [begun_queue] at hr
    exact hf.2.2.1 r (mem_outstanding.2 ⟨.port p, hr⟩)
  rw [hq] at hn
  cases hn

/-- The window of a flip, after which the queues count it and the timers pass (R147, R54, R72). -/
theorem window_flips (hp : s.PagesSound) (hc : s.ConditioningSound) (hf : s.FlipsIn ready)
    (hs : s.mode.sched = .drainSwitch ret) : s.window ready drive = (s.flipped ready drive ret).waitedAll.passed := by
  have hto : (s.commanded ready drive).FlipsTo ret := by
    obtain ⟨ret', hto⟩ := flipsIn_iff.1 hf
    have := hto.1
    rw [commanded_mode, hs] at this
    cases this
    exact hto
  have hcounted : s.counted ready drive = (s.flipped ready drive ret).waitedAll := by
    unfold counted
    rw [advanceWheel_flips hto]
    change (s.flipped ready drive ret).countWindow.settleDrain = _
    rw [countWindow_quiet (flipped_stallsBelow hf), settleDrain_of_not]
    refine .inl ?_
    change (s.flipped ready drive ret).mode.sched ≠ .drainHold
    rw [flipped_eq hf]
    cases ret <;> exact nofun
  have hends : ¬(s.counted ready drive).EndsConditioning := fun he =>
    not_ends_of_running hc (by rw [hs]; rfl) ((counted_ends hp hc).1 he)
  rw [hcounted] at hends
  rw [window_counted, hcounted, ended_quiet hends (flipped_noExpiry hp hf)]

end State

end Sys2Proof.Machine

end

section
/-! PROOFS. What a window carries on the bus, and what the flip in it does (6.1, 6.2, 8.6). -/

-- One proof after another: a thread for each would reserve more memory than the check allows.
set_option Elab.async false

namespace Sys2Proof.Machine

variable {s t u : State}

/-! ### The data of a WRITE (R6, R22) -/

theorem Record.mask_client {r : Record} (h : r.word = none) : r.mask = BitVec.allOnes 4 := by
  unfold Record.mask
  rw [h]

theorem Record.mask_host {r : Record} {w : Fin 4} (h : r.word = some w) (hk : r.kind = .write) :
    r.mask = BitVec.ofNat 4 (2 ^ w.val) := by
  unfold Record.mask
  rw [h, hk]

theorem Record.writeData_client {r : Record} (h : r.word = none) (drive : Option BurstData) : r.writeData drive =
    match drive with
    | some d => #v[some d.word0, some d.word1, some d.word2, some d.word3]
    | none => #v[none, none, none, none] := by
  unfold Record.writeData
  rw [h]
  cases drive <;> rfl

theorem Record.writeData_host {r : Record} {w : Fin 4} (h : r.word = some w) (drive : Option BurstData) :
    r.writeData drive = put (Vector.replicate 4 none) w r.data := by
  unfold Record.writeData
  rw [h]

namespace State

/-! ### Accounts and rank seen from states that have the same -/

theorem AccountsRaised.congr {s' t' : State} (hs : s.SameEngine s') (ht : t.SameEngine t') (h : s.AccountsRaised t) :
    s'.AccountsRaised t' := fun b => by
  have := h b
  simp only [PassesAtExpiry, pointerNeedsRefresh, hs.account, ht.account, hs.2.1] at this ⊢
  exact this

theorem PassedRowsLost.congr {s' t' : State} (hs : s.SameEngine s') (ht : t.SameEngine t') (h : s.PassedRowsLost t) :
    s'.PassedRowsLost t' := fun a => by
  have := h a
  simp only [PassesAtExpiry, pointerNeedsRefresh, hs.account, hs.2.1, hs.2.2, ht.2.2] at this ⊢
  exact this

theorem SameEngine.symm (h : s.SameEngine t) : t.SameEngine s := ⟨h.1.symm, h.2.1.symm, h.2.2.symm⟩

theorem paidBy_regions (c : Option (Requester × Action)) : (s.paidBy c).regions = s.regions := by
  unfold paidBy
  split
  · exact retirementCheck_regions _
  · rfl

variable {ready : BitVec 4} {drive : Option BurstData} {ptr : Requester} {a : Action} {b : BankId} {ret : ReturnState}

/-! ### The bus and the arbiter -/

theorem window_bus : (s.window ready drive).bus = (s.commanded ready drive).bus := by
  obtain ⟨hbus, -⟩ := s.counted_always (ready := ready) (drive := drive)
  obtain ⟨hended, -⟩ := (s.counted ready drive).ended_always
  exact hended.trans hbus

theorem window_arbiter : (s.window ready drive).arbiter.wheelPosition = s.nextPosition ∧
    (s.window ready drive).arbiter.pointer = (s.commanded ready drive).arbiter.pointer := by
  obtain ⟨-, hwheel, hpointer, -⟩ := s.counted_always (ready := ready) (drive := drive)
  obtain ⟨-, hended, -⟩ := (s.counted ready drive).ended_always
  rw [window_counted, hended]
  exact ⟨hwheel, hpointer⟩

theorem issueBurst_bus (who : Requester) (r : Record) : (s.issueBurst who r drive).bus = (s.moveBurst r drive).bus := by
  rw [issueBurst_eq]

theorem moveBurst_bus_read {r : Record} (h : r.kind = .read) : (s.moveBurst r drive).bus =
    some (.read r.bank r.position (BitVec.allOnes 4) (s.dram.burst r.bank (s.physOf r.bank) r.position)) := by
  have hmask : r.mask = BitVec.allOnes 4 := by
    unfold Record.mask
    rw [h]
    split
    next heq => cases heq
    · rfl
  unfold moveBurst
  rw [h, hmask]
  rfl

theorem moveBurst_bus_write {r : Record} (h : r.kind = .write) :
    (s.moveBurst r drive).bus = some (.write r.bank r.position r.mask (r.writeData drive)) := by
  unfold moveBurst
  rw [h]
  rfl

/-! ### The flip of a window -/

theorem flipped_credit (hf : s.FlipsIn ready) : (s.flipped ready drive ret).credit =
    { count := min (s.commanded ready drive).credit.count s.editPage.creditCapacity
      refillTimer := 0
      refillDue := s.credit.refillDue } := by
  have hcredit : (s.flipped ready drive ret).credit = (s.commanded ready drive).wrapped.flippedCredit := by
    have hflip := takeFlip_of_queued (hf.queued (drive := drive)) ret
    unfold flipped
    rw [hflip]
  have hdecided : (s.commanded ready drive).wrapped.decided = false := by rw [hf.before]
  have hedit : (s.commanded ready drive).wrapped.editPage = s.editPage := by
    rw [hf.before]
    rfl
  rw [hcredit]
  unfold flippedCredit
  rw [hdecided, hedit]
  have hdue : (s.commanded ready drive).wrapped.credit.refillDue = s.credit.refillDue := commanded_bucket.2
  rw [hdue]
  rfl

/-- The credit count that the command of a flip's window leaves (R93). -/
theorem FlipsIn.credit_left (hf : s.FlipsIn ready) : (s.commanded ready drive).credit.count =
    match s.choice ready with
    | some (_, .refresh _) => s.credit.count - 1
    | _ => s.credit.count := by
  cases hc : s.choice ready with
  | none => rw [commanded_credit.2 fun ptr a h => by rw [hc] at h; cases h]
  | some x =>
    obtain ⟨ptr, a⟩ := x
    obtain ⟨b, rfl⟩ | ⟨b, rfl⟩ := hf.choice hc
    · rw [commanded_credit.2 fun ptr a h ha => by rw [hc] at h; cases h; exact ha]
    · rw [commanded_credit.1 _ _ hc trivial]

theorem FlipsIn.engine (hf : s.FlipsIn ready) :
    (s.commanded ready drive).wrapped.SameEngine (s.paidBy (s.choice ready)) := by
  refine ⟨commanded_accounts.symm, ?_, (commanded_dram hf.no_burst).symm⟩
  rw [paidBy_regions, hf.before]

/-- What the flip finds on the interval timer, in the event queue and of the mode. -/
theorem FlipsIn.timer (hf : s.FlipsIn ready) : (s.commanded ready drive).wrapped.refresh.elapsed = s.refresh.elapsed ∧
    (s.commanded ready drive).wrapped.events = s.events ∧ (s.commanded ready drive).wrapped.mode = s.mode := by
  refine ⟨commanded_elapsed, ?_, ?_⟩ <;> rw [hf.before]

theorem decided_sound (ha : s.AccountsInRange) (hn : s.PointersNeedRefresh) :
    (s.commanded ready drive).wrapped.AccountsInRange ∧ (s.commanded ready drive).wrapped.PointersNeedRefresh := by
  have hbegun : (s.begun ready).PointersSound := by
    rw [begun_eq]
    exact ⟨ha, hn⟩
  exact law_pointers.decide hbegun drive

/-! ### The window of a flip, field by field -/

/-- The bucket after the flip, on the new page, counts the window (R94, R96). -/
theorem window_flip_credit (hp : s.PagesSound) (hc : s.ConditioningSound) (hf : s.FlipsIn ready)
    (hs : s.mode.sched = .drainSwitch ret) {clamped : Nat}
    (hclamped : clamped = min (s.commanded ready drive).credit.count s.editPage.creditCapacity) :
    (s.window ready drive).credit =
      { count := if s.credit.refillDue = true ∧ clamped < s.editPage.creditCapacity then clamped + 1 else clamped
        refillTimer := 1
        refillDue := Decidable.decide (s.editPage.refillPeriod ≤ 1) } := by
  have hpage := flipped_runPage (drive := drive) (ret := ret) hf
  have hcredit := flipped_credit (drive := drive) (ret := ret) hf
  have hrefill := (s.flipped ready drive ret).waitedAll.refill_credit
  rw [window_flips hp hc hf hs, passed]
  dsimp only
  rw [hrefill]
  change CreditBucket.tick (if (s.flipped ready drive ret).credit.refillDue then
    (s.flipped ready drive ret).credit.refilled (s.flipped ready drive ret).runPage.creditCapacity
    else (s.flipped ready drive ret).credit) (s.flipped ready drive ret).runPage.refillPeriod = _
  rw [hpage, hcredit, ← hclamped]
  cases s.credit.refillDue <;> simp [CreditBucket.tick, CreditBucket.refilled]

/-- All else is what the flip leaves, with the window counted at the timers (R72, R112). -/
theorem window_flip_kept (hp : s.PagesSound) (hc : s.ConditioningSound) (hf : s.FlipsIn ready)
    (hs : s.mode.sched = .drainSwitch ret) :
    (s.window ready drive).refresh.elapsed = (s.flipped ready drive ret).refresh.elapsed + 1 ∧
    (s.flipped ready drive ret).SameEngine (s.window ready drive) ∧
    (s.window ready drive).events = (s.flipped ready drive ret).events ∧
    ∀ b, ((s.window ready drive).banks.get b).pins = ((s.flipped ready drive ret).banks.get b).pins := by
  have hrunning : (s.flipped ready drive ret).waitedAll.mode.sched.running = true := flipped_running hf
  rw [window_flips hp hc hf hs]
  refine ⟨?_, ⟨rfl, rfl, rfl⟩, rfl, fun b => ?_⟩
  · rw [passed]
    dsimp only
    rw [hrunning]
    rfl
  · rw [passed]
    dsimp only
    rw [get_map]
    rfl

/-- A window passes without a change of the scheduler state unless the conditioning ends in it. -/
theorem ended_mode (h : ¬s.EndsConditioning) : s.takeDue.endWindow.mode = s.mode := by
  have htake : s.takeDue = s.runOutAll.refill.intervalExpiry := by rw [takeDue, runOuts_eq h]
  have hframe := s.runOutAll.refill.intervalExpiry_keeps.1
  rw [htake]
  change s.runOutAll.refill.intervalExpiry.mode = s.mode
  rw [hframe, refill_eq]
  rfl

end State

end Sys2Proof.Machine

open Sys2Proof Sys2Proof.Machine

/-- Settles O50: the window carries its choice, and where it flips, the flip finds what the command has left. -/
theorem windowCarriesItsDecision : Obligations.WindowCarriesItsDecision := by
  intro s ready drive hr d
  refine ⟨_, exec_windowDecision hr ready drive, State.window_arbiter.1, ?_, fun hd => ?_, fun ptr a hd => ?_⟩
  · intro ret hp hc hs flips paid edit
    refine ⟨fun hf => ?_, fun hf => ?_⟩
    · have hrun : s.mode.sched.running = true := by rw [hs]; rfl
      have hmode : (s.counted ready drive).mode = s.mode :=
        (State.counted_mode hf).resolve_right fun h => by rw [hs] at h; cases h.1
      rw [State.window_counted, ← hmode]
      have hends : ¬(s.counted ready drive).EndsConditioning := fun he =>
        State.not_ends_of_running hc hrun ((State.counted_ends hp hc).1 he)
      exact State.ended_mode hends
    · obtain ⟨helapsed, hengine, hevents, hpins⟩ := State.window_flip_kept (drive := drive) hp hc hf hs
      obtain ⟨htimer, hposts, hmode⟩ := hf.timer (drive := drive)
      have hpaid := hf.engine (drive := drive)
      have hpins' := State.commanded_pins (drive := drive) hf.no_burst hf.no_closeAll
      have hcredit := State.window_flip_credit (drive := drive) hp hc hf hs rfl
      have hedit : (s.commanded ready drive).wrapped.editPage = edit := by
        unfold State.editPage State.editSelect
        rw [hmode]
      refine ⟨?_, ?_, by rw [hcredit], by rw [hcredit]; exact decide_eq_true_iff,
        fun hlt => ?_, fun hge ha hn => ?_⟩
      · rw [State.window_flips hp hc hf hs]
        change (s.flipped ready drive ret).mode = _
        rw [State.flipped_eq hf]
        rfl
      · intro left hleft clamped
        have hleft' : left = (s.commanded ready drive).credit.count := hleft.trans hf.credit_left.symm
        rw [State.window_flip_credit (drive := drive) hp hc hf hs (clamped := clamped) (by rw [← hleft']; rfl)]
        rfl
      · have hflip := State.takeFlip_of_lt (s := (s.commanded ready drive).wrapped) (ret := ret) (by rw [hedit, htimer]; exact hlt)
        have hflipped : s.flipped ready drive ret = _ := hflip
        refine ⟨?_, ?_, ?_, fun b => ?_, ?_⟩
        · rw [helapsed, hflipped, ← htimer]
        · exact hengine.1.trans ((congrArg (fun u : State => u.refresh.accounts) hflipped).trans hpaid.1.symm)
        · exact hengine.2.2.trans ((congrArg State.dram hflipped).trans hpaid.2.2.symm)
        · rw [hpins, hflipped, ← hpins']
          rfl
        · rw [hevents, hflipped, ← hmode]
          exact State.post_events_congr hposts _ _ _ _
      · obtain ⟨ha', hn'⟩ := State.decided_sound (ready := ready) (drive := drive) ha hn
        obtain ⟨-, hzero, -, hraised, hlost, hbanks, hflip⟩ := State.takeFlip_of_ge (s := (s.commanded ready drive).wrapped)
          (ret := ret) (by rw [hedit, htimer]; exact hge) ha' hn' hf.queued
        refine ⟨by rw [helapsed]; exact congrArg (· + 1) hzero, hraised.congr hpaid hengine, hlost.congr hpaid hengine,
          fun b => ?_, ?_⟩
        · rw [hpins, ← hpins', show paid.account b = _ from hpaid.account b]
          exact congrArg Bank.pins (hbanks b)
        · rw [hevents, ← hmode]
          refine hflip.trans ?_
          refine State.post_events_congr ?_ _ _ _ _
          exact State.postExpiry_events_congr (fun b => (hpaid.account b).symm) (fun _ => rfl) hposts
  · refine ⟨?_, ?_⟩
    · rw [State.window_bus, State.commanded_of_none hd]
    · rw [State.window_arbiter.2, State.commanded_of_none hd, State.begun_eq]
  · refine ⟨?_, ?_⟩
    · rw [State.window_arbiter.2, State.commanded_of_some hd]
    · have hbus : (s.window ready drive).bus = ((s.begun ready).issue drive a).bus := by
        rw [State.window_bus, State.commanded_of_some hd]
      have hdram : (s.begun ready).dram = s.dram := by rw [State.begun_eq]
      have hphys : ∀ b, (s.begun ready).physOf b = ((s.banks.get b).physRow?).getD 0 := fun b => by rw [State.begun_eq]; rfl
      cases a with
      | closeAll => exact hbus
      | condition b => exact hbus
      | refresh b =>
        refine hbus.trans ?_
        rw [State.issue, State.issueRefresh_eq, State.begun_eq]
        rfl
      | close b => exact hbus
      | openFor b row =>
        refine hbus.trans ?_
        rw [State.begun_eq]
        rfl
      | burst who r =>
        have hmove : (s.window ready drive).bus = ((s.begun ready).moveBurst r drive).bus :=
          hbus.trans (State.issueBurst_bus who r)
        refine ⟨fun hk => ?_, fun hk hw => ?_, fun k hk hw => ?_⟩
        · rw [hmove, State.moveBurst_bus_read hk, hdram, hphys]
          rfl
        · rw [hmove, State.moveBurst_bus_write hk, Record.mask_client hw, Record.writeData_client hw]
          rfl
        · refine ⟨r.writeData drive, hmove.trans ?_, ?_⟩
          · rw [State.moveBurst_bus_write hk, Record.mask_host hw hk]
            rfl
          · rw [Record.writeData_host hw]
            exact get_put_self ..

end

section
/-! PROOFS. A window in which no record is stall-aborted and no interval expires but in a flip, at the queues and at mode
control (3.6, 3.7, 8.6). -/

-- One proof after another: a thread for each would reserve more memory than the check allows.
set_option Elab.async false

namespace Sys2Proof.Machine

variable {s t u : State}

theorem Record.waited_queued (low : Bool) (r : Record) : (r.waited low).state = .queued ↔ r.state = .queued := by
  unfold Record.waited
  cases h : r.state with
  | active n => cases low <;> simp [h]
  | queued => simp
  | suspended => simp

namespace State

variable {ready : BitVec 4} {drive : Option BurstData} {ptr : Requester} {a : Action} {b : BankId} {ret : ReturnState}

/-! ### The counts leave the drain's end as it is -/

theorem waitedAll_queueOf (who : Requester) : ∃ low, s.waitedAll.queueOf who = (s.queueOf who).map (Record.waited low) := by
  cases who with
  | port p =>
    refine ⟨!(s.ports.get p).ready, ?_⟩
    change (s.waitedAll.ports.get p).queue = _
    unfold waitedAll
    dsimp only
    rw [get_map]
    rfl
  | host => exact ⟨false, rfl⟩

theorem waitedAll_drain : s.waitedAll.DrainComplete ↔ s.DrainComplete := by
  refine and_congr_left fun _ => ⟨fun h r hr => ?_, fun h r hr => ?_⟩
  · obtain ⟨who, hw⟩ := mem_outstanding.1 hr
    obtain ⟨low, hlow⟩ := s.waitedAll_queueOf who
    refine (r.waited_queued low).1 (h _ (mem_outstanding.2 ⟨who, ?_⟩))
    rw [hlow]
    exact List.mem_map_of_mem hw
  · obtain ⟨who, hw⟩ := mem_outstanding.1 hr
    obtain ⟨low, hlow⟩ := s.waitedAll_queueOf who
    rw [hlow] at hw
    obtain ⟨q, hq, rfl⟩ := List.mem_map.1 hw
    exact (q.waited_queued low).2 (h q (mem_outstanding.2 ⟨who, hq⟩))

/-- A window without a flip and an abort, up to the timers: the queues count it, and a drain that its command has completed
is settled (R54, R55, R145). -/
theorem counted_calm (hf : ¬s.FlipsIn ready) (hb : (s.commanded ready drive).StallsBelow) :
    s.counted ready drive = { (s.commanded ready drive).waitedAll with
      arbiter := (s.counted ready drive).arbiter, mode := (s.counted ready drive).mode
      events := (s.counted ready drive).events } ∧
    (s.mode.sched = .drainHold ∧ (s.commanded ready drive).DrainComplete →
      (s.counted ready drive).mode = { s.mode with sched := .held } ∧
        (s.counted ready drive).events = (s.post .holdDone .none none 0).events) ∧
    (¬(s.mode.sched = .drainHold ∧ (s.commanded ready drive).DrainComplete) →
      (s.counted ready drive).mode = s.mode ∧ (s.counted ready drive).events = s.events) := by
  have hwheel := advanceWheel_keeps (s := s.commanded ready drive) (no_flip hf)
  have hcommanded : (s.commanded ready drive).mode = s.mode ∧ (s.commanded ready drive).events = s.events := by
    rw [commanded_eq]
    exact ⟨rfl, rfl⟩
  unfold counted
  generalize s.commanded ready drive = v at hb hwheel hcommanded ⊢
  generalize v.advanceWheel = w at hwheel ⊢
  have hquiet : w.countWindow = w.waitedAll := countWindow_quiet (by rw [hwheel]; exact hb)
  have hdrain : w.waitedAll.DrainComplete ↔ v.DrainComplete := waitedAll_drain.trans (by rw [hwheel]; rfl)
  have hw : w.waitedAll.mode = s.mode ∧ w.waitedAll.events = s.events := by
    rw [← hcommanded.1, ← hcommanded.2, hwheel]
    exact ⟨rfl, rfl⟩
  have hframe : w.waitedAll.settleDrain = { v.waitedAll with
      arbiter := w.waitedAll.settleDrain.arbiter, mode := w.waitedAll.settleDrain.mode
      events := w.waitedAll.settleDrain.events } := by
    rw [settleDrain_eq]
    rw [hwheel]
    rfl
  rw [hquiet]
  refine ⟨hframe, fun hc => ?_, fun hc => ?_⟩
  · rw [settleDrain_of_complete (by rw [hw.1]; exact hc.1) (hdrain.2 hc.2), hw.1]
    exact ⟨rfl, post_events_congr hw.2 _ _ _ _⟩
  · rw [settleDrain_of_not]
    · exact hw
    · rw [hw.1, hdrain]
      exact not_and_or.1 hc

/-- Where nothing is issued for a record, none reaches the limit that did not before (R55). -/
theorem NoAbort.commanded (h : s.NoAbort ready) (hb : ∀ ptr who r, s.choice ready ≠ some (ptr, .burst who r)) :
    (s.commanded ready drive).StallsBelow := by
  intro p hp r hr n hn
  rw [commanded_runPage]
  rw [commanded_eq_of_no_burst hb] at hp hr
  dsimp only at hp hr
  rw [begun_queue] at hr
  rw [begun_port] at hp
  exact h p hp r hr n hn

/-! ### The queues after the window -/

theorem portWaited_eq (p : PortId) : ((s.begun ready).waitedAll.ports.map Port.tick).get p = s.portWaited ready p := by
  unfold waitedAll portWaited Port.afterDecision Port.tick
  dsimp only
  rw [get_map, get_map, begun_port]
  dsimp only
  rw [s.beginWindow_queue p, List.append_nil]

/-- The part of the state that every window without a burst leaves as it is, or counts as one more window. -/
def WaitsTo (s t : State) (ready : BitVec 4) : Prop :=
  t = { s with
    decided := true
    ports := t.ports
    hostQueue := s.hostQueue.map (Record.waited false)
    banks := t.banks
    refresh := t.refresh
    credit := t.credit
    arbiter := t.arbiter
    mode := { s.mode with sched := t.mode.sched, runSelect := t.mode.runSelect }
    events := t.events
    bus := t.bus
    dram := t.dram
    history := t.history } ∧ ∀ p, t.ports.get p = s.portWaited ready p

theorem WaitsTo.of_passed {q : State} (h : q = { s with
    decided := q.decided
    ports := (s.begun ready).waitedAll.ports
    hostQueue := s.hostQueue.map (Record.waited false)
    banks := q.banks
    refresh := q.refresh
    credit := q.credit
    arbiter := q.arbiter
    mode := { s.mode with sched := q.mode.sched, runSelect := q.mode.runSelect }
    events := q.events
    bus := q.bus
    dram := q.dram
    history := q.history }) : s.WaitsTo q.passed ready := by
  refine ⟨?_, fun p => ?_⟩
  · unfold passed
    dsimp only
    rw [h]
  · rw [← portWaited_eq]
    unfold passed
    dsimp only
    rw [h]

/-- The last window of conditioning (R127, R128). -/
theorem window_conditioned (hp : s.PagesSound) (hc : s.ConditioningSound) (ha : s.NoAbort ready)
    (hb : ∀ ptr who r, s.choice ready ≠ some (ptr, .burst who r)) (he : s.EndsConditioning) :
    s.WaitsTo (s.window ready drive) ready ∧ (s.window ready drive).mode = { s.mode with sched := .run } ∧
    (s.window ready drive).events = (s.post .initDone .none none 0).events ∧ (s.window ready drive).dram = [] ∧
    (s.window ready drive).history = .powerOn ∧
    (s.window ready drive).refresh = { RefreshEngine.powerOn with elapsed := 1 } ∧
    ∀ b, ((s.window ready drive).banks.get b).pins = ((s.commanded ready drive).banks.get b).pins := by
  have hinit : s.mode.sched = .init := hc.1.2 (by rw [he.1]; simp)
  have hf := not_flips_of_init (ready := ready) hinit
  obtain ⟨hframe, -, hkept⟩ := counted_calm hf (ha.commanded hb (drive := drive))
  obtain ⟨hmode, hevents⟩ := hkept fun h => by rw [hinit] at h; cases h.1
  have hinterval : 0 < (s.counted ready drive).runPage.refreshInterval := by
    rw [counted_runPage hf]
    exact lt_of_lt_of_le (by decide) (hp.1 s.mode.runSelect).refreshInterval.1
  have hwindow := ended_conditioning ((counted_ends (ready := ready) (drive := drive) hp hc).2 he) hinterval
  rw [← window_counted] at hwindow
  have hcommanded := commanded_eq_of_no_burst hb (drive := drive)
  have hend := (s.counted ready drive).endConditioning_eq
  generalize s.counted ready drive = q at hframe hmode hevents hwindow hend
  generalize s.commanded ready drive = v at hframe hcommanded ⊢
  rw [hwindow]
  have hbanks : q.endConditioning.banks = v.banks := by rw [hend, hframe]; rfl
  have hqmode : q.endConditioning.mode = { s.mode with sched := .run } := by rw [hend, hmode]
  have hqevents : q.endConditioning.events = (s.post .initDone .none none 0).events := by
    rw [hend]
    exact post_events_congr hevents _ _ _ _
  have hrest : q.endConditioning.dram = [] ∧ q.endConditioning.history = .powerOn ∧ q.endConditioning.refresh = .powerOn := by
    rw [hend]
    exact ⟨rfl, rfl, rfl⟩
  refine ⟨WaitsTo.of_passed ?_, hqmode, hqevents, hrest.1, hrest.2.1, ?_, fun b => ?_⟩
  · rw [hend, hframe, hcommanded, hmode]
    rfl
  · unfold passed
    dsimp only
    rw [hqmode, hrest.2.2]
    rfl
  · unfold passed
    dsimp only
    rw [get_map, hbanks]
    rfl

/-- A window without a burst that is not the last of conditioning: what it leaves of the queues, of mode control and of what
its command has changed. -/
theorem window_waits (hp : s.PagesSound) (hc : s.ConditioningSound) (ha : s.NoAbort ready)
    (hx : s.NoExpiry ∨ s.FlipsIn ready) (hb : ∀ ptr who r, s.choice ready ≠ some (ptr, .burst who r))
    (he : ¬s.EndsConditioning) :
    s.WaitsTo (s.window ready drive) ready ∧
    (s.mode.sched = .drainHold ∧ s.DrainedBy (s.choice ready) →
      (s.window ready drive).mode = { s.mode with sched := .held } ∧
        (s.window ready drive).events = (s.post .holdDone .none none 0).events) ∧
    (∀ ret, s.FlipsIn ready → s.mode.sched = .drainSwitch ret → (s.window ready drive).mode = s.mode.flipped ret) ∧
    (¬(s.mode.sched = .drainHold ∧ s.DrainedBy (s.choice ready)) → ¬s.FlipsIn ready →
      (s.window ready drive).mode = s.mode ∧ (s.window ready drive).events = s.events) ∧
    (¬(s.FlipsIn ready ∧ s.editPage.refreshInterval ≤ s.refresh.elapsed) →
      (s.window ready drive).refresh.accounts = (s.commanded ready drive).refresh.accounts ∧
      (s.window ready drive).dram = (s.commanded ready drive).dram ∧
      ∀ b, ((s.window ready drive).banks.get b).pins = ((s.commanded ready drive).banks.get b).pins) := by
  have hcommanded := commanded_eq_of_no_burst hb (drive := drive)
  by_cases hf : s.FlipsIn ready
  · obtain ⟨ret, hs⟩ := hf.1
    obtain ⟨-, hengine, -, hpins⟩ := window_flip_kept (drive := drive) hp hc hf hs
    have hflipped := flipped_eq (drive := drive) (ret := ret) hf
    have hmode : (s.window ready drive).mode = s.mode.flipped ret := by
      rw [window_flips hp hc hf hs]
      change (s.flipped ready drive ret).mode = _
      rw [hflipped]
    refine ⟨?_, fun hd => ?_, fun ret' _ hs' => ?_, fun _ h => absurd hf h, fun hno => ?_⟩
    · rw [window_flips hp hc hf hs]
      refine .of_passed ?_
      generalize s.flipped ready drive ret = f at hflipped ⊢
      rw [hflipped]
      rfl
    · rw [hs] at hd
      cases hd.1
    · rw [hs] at hs'
      cases hs'
      exact hmode
    · obtain ⟨htimer, -, hbefore⟩ := hf.timer (drive := drive)
      have hlt : (s.commanded ready drive).wrapped.refresh.elapsed <
          (s.commanded ready drive).wrapped.editPage.refreshInterval := by
        unfold editPage editSelect
        rw [htimer, hbefore]
        exact not_le.1 fun hle => hno ⟨hf, hle⟩
      have hkept : (s.flipped ready drive ret).refresh = (s.commanded ready drive).refresh ∧
          (s.flipped ready drive ret).dram = (s.commanded ready drive).dram ∧
          (s.flipped ready drive ret).banks = (s.commanded ready drive).banks := by
        unfold flipped
        rw [takeFlip_of_lt hlt]
        exact ⟨rfl, rfl, rfl⟩
      obtain ⟨hrefresh, hdram, hbanks⟩ := hkept
      exact ⟨hengine.1.trans (by rw [hrefresh]), hengine.2.2.trans hdram, fun b => (hpins b).trans (by rw [hbanks])⟩
  · obtain ⟨hframe, hdrained, hkept⟩ := counted_calm hf (ha.commanded hb (drive := drive))
    have hwindow := window_quiet (drive := drive) hp hc hf (hx.resolve_right hf) he
    have hdrain : s.mode.sched = .drainHold →
        ((s.commanded ready drive).DrainComplete ↔ s.DrainedBy (s.choice ready)) := fun h => commanded_drain (by rw [h]; rfl)
    rw [and_congr_right hdrain] at hdrained hkept
    have hmode := counted_mode (drive := drive) hf
    generalize s.counted ready drive = q at hframe hwindow hdrained hkept hmode
    rw [hwindow]
    refine ⟨.of_passed ?_, hdrained, fun _ h => absurd h hf, fun h _ => hkept h, fun _ => ?_⟩
    · have hselect : q.mode = { s.mode with sched := q.mode.sched, runSelect := q.mode.runSelect } := by
        obtain h | ⟨-, h⟩ := hmode <;> rw [h]
      generalize s.commanded ready drive = v at hframe hcommanded
      rw [hframe, hcommanded, ← hselect]
      rfl
    · generalize s.commanded ready drive = v at hframe ⊢
      have hq : q.refresh = v.refresh ∧ q.dram = v.dram ∧ q.banks = v.banks := by
        rw [hframe]
        exact ⟨rfl, rfl, rfl⟩
      refine ⟨show q.refresh.accounts = v.refresh.accounts by rw [hq.1], hq.2.1, fun b => ?_⟩
      unfold passed
      dsimp only
      rw [get_map, hq.2.2]
      rfl

/-! ### The rank after a refresh -/

theorem Account.pay_pointer_le (k : Account) : k.pay.pointer ≤ 128 := by
  rw [Account.pay_eq]
  split
  · dsimp only
    omega
  · exact Nat.zero_le _

/-- A refresh loses the words of the OFF groups that the check after it passes, and no others (R68, R119). -/
theorem paid_dram (b : BankId) (a : Nat) :
    let t := (s.modAccount b Account.pay).retirementCheck b
    let lost := ∃ n, (s.account b).pay.pointer ≤ n ∧ n < (t.account b).pointer ∧ classOf s.regions b n = .off ∧
      inGroup b n a = true
    (lost → t.dram.read a = none) ∧ (¬lost → t.dram.read a = s.dram.read a) := by
  have hself : (s.modAccount b Account.pay).account b = (s.account b).pay := modAccount_account_self ..
  obtain ⟨k, hk⟩ := (s.modAccount b Account.pay).retirementCheck_retired (b := b)
    (.inl (by rw [hself]; exact Account.pay_pointer_le _))
  have hlost : (s.modAccount b Account.pay).LosesIn b k a ↔ ∃ n, (s.account b).pay.pointer ≤ n ∧
      n < (((s.modAccount b Account.pay).retirementCheck b).account b).pointer ∧ classOf s.regions b n = .off ∧
      inGroup b n a = true := by
    unfold LosesIn
    rw [hk.pointer, hself]
    constructor
    · rintro ⟨m, hm, hoff, hin⟩
      exact ⟨_, Nat.le_add_right .., by omega, hoff, hin⟩
    · rintro ⟨n, hle, hlt, hoff, hin⟩
      obtain ⟨m, rfl⟩ := Nat.exists_eq_add_of_le hle
      exact ⟨m, by omega, hoff, hin⟩
  exact ⟨fun h => hk.lost a (hlost.2 h), fun h => hk.kept a fun hl => h (hlost.1 hl)⟩

end State

end Sys2Proof.Machine

open Sys2Proof Sys2Proof.Machine

/-- Settles O53: the queues count the window, mode control takes what the window completes, and the rest is what the command
leaves. -/
theorem windowWithoutBurstAtQueues : Obligations.WindowWithoutBurstAtQueues := by
  intro s ready drive hr hp hc ha hx hb choice conditioned drains flips expires
  refine ⟨_, exec_windowDecision hr ready drive, ?_⟩
  have hhistory : (∀ ptr b, choice ≠ some (ptr, .refresh b)) → (s.commanded ready drive).history = s.history := fun hno => by
    have hbegun : (s.begun ready).history = s.history := by rw [State.begun_eq]
    rw [← hbegun]
    cases h : s.choice ready with
    | none => rw [State.commanded_of_none h]
    | some x =>
      rw [State.commanded_of_some h]
      exact State.issue_history fun b hab => hno x.1 b (h.trans (by rw [← hab]))
  have haccounts : (∀ ptr b, choice ≠ some (ptr, .refresh b)) →
      (s.commanded ready drive).refresh.accounts = s.refresh.accounts := fun hno => by
    rw [State.commanded_accounts, State.paidBy_of_no_refresh (c := s.choice ready) hno]
  have hpins := fun hall => State.commanded_pins (drive := drive) hb (ready := ready) hall
  by_cases he : s.EndsConditioning
  · obtain ⟨⟨hframe, hports⟩, hmode, hevents, hdram, hhist, hrefresh, hbanks⟩ :=
      State.window_conditioned (drive := drive) hp hc ha hb he
    have hinit : s.mode.sched = .init := hc.1.2 (by rw [he.1]; simp)
    have hchoice : ∀ x, choice ≠ some x := fun x h => State.not_ends_of_choice hc h he
    refine ⟨hframe, hports, fun _ => ⟨by rw [hmode], hevents, hdram, hhist, hrefresh⟩, fun h => absurd he h, fun h => ?_,
      fun h => absurd h (State.not_flips_of_init hinit), fun _ => by rw [hmode], fun h => absurd he h,
      fun _ hall b => (hbanks b).trans (hpins hall b), fun h => absurd he h, fun ptr b h => absurd h (hchoice _)⟩
    exact absurd (hinit.symm.trans h.1) (by decide)
  · obtain ⟨⟨hframe, hports⟩, hdrains, hflips, hkept, hquiet⟩ := State.window_waits (drive := drive) hp hc ha hx hb he
    obtain ⟨hhist, hcond⟩ := State.window_kept (ready := ready) (drive := drive) hp hc he
    have hselect : ¬s.FlipsIn ready → (s.window ready drive).mode.runSelect = s.mode.runSelect := fun hf => by
      by_cases hd : drains
      · rw [(hdrains hd).1]
      · rw [(hkept hd hf).1]
    refine ⟨hframe, hports, fun h => absurd h he, fun _ => ⟨fun hf hno => ?_, fun hall hno => ?_⟩,
      fun hd => ⟨by rw [(hdrains hd).1], (hdrains hd).2⟩, fun hf => ?_, hselect,
      fun _ hd hf => ⟨by rw [(hkept hd hf).1], (hkept hd hf).2⟩, fun hno hall b => ?_, fun _ hno => ⟨?_, fun hnx => ?_⟩, ?_⟩
    · rw [(hquiet fun h => hf h.1).1, haccounts hno]
    · rw [hcond]
      cases h : s.choice ready with
      | none => rw [State.commanded_of_none h, State.begun_eq]
      | some x =>
        obtain ⟨ptr, a⟩ := x
        rw [State.commanded_of_some h]
        refine State.issue_conditioning.trans ?_
        rw [State.begun_eq]
        cases a with
        | closeAll => exact absurd h (hall ptr)
        | condition b => exact absurd h (hno ptr b)
        | _ => rfl
    · obtain ⟨ret, hs⟩ := hf.1
      rw [hflips ret hf hs]
      refine ⟨rfl, fun h => ?_, fun h => ?_⟩ <;> cases hs.symm.trans h <;> rfl
    · rw [(hquiet hno).2.2, hpins hall]
    · exact hhist.trans (hhistory hno)
    · rw [(hquiet hnx).2.1, State.commanded_dram hb, State.paidBy_of_no_refresh (c := s.choice ready) hno]
    · intro ptr b h hno a
      have hpaid := State.commanded_refresh_engine (drive := drive) h
      have hloss := s.paid_dram b a
      obtain ⟨hacc, hdram, -⟩ := hquiet hno
      have hstate : s.paidBy (s.choice ready) = (s.modAccount b Account.pay).retirementCheck b := by
        rw [show s.choice ready = _ from h]
        rfl
      rw [hstate] at hpaid
      have haccount : (s.window ready drive).account b = ((s.modAccount b Account.pay).retirementCheck b).account b :=
        (congrArg (fun v : Vector Account 4 => v.get b) hacc).trans (hpaid.account b)
      have hfirst : (s.account b).pay.pointer = if (s.account b).pointer < 128 then (s.account b).pointer + 1 else 0 := by
        rw [Account.pay_eq]
        split <;> rfl
      dsimp only at hloss
      rw [hfirst, ← haccount, ← hpaid.2.2, ← hdram] at hloss
      exact hloss

end

section
/-! PROOFS. The window that carries a burst: its record, its bank, its notices and the rank (1.3, 2.4, 3.4, 5.4, 5.5, 10.6). -/

-- One proof after another: a thread for each would reserve more memory than the check allows.
set_option Elab.async false

namespace Sys2Proof.Machine

variable {s t u : State}

/-! ### The words of a burst -/

/-- A burst stores the words that its mask enables, and leaves the others (R6). -/
theorem Dram.read_storeBurst (m : Dram) (b : BankId) (phys pos : Nat) (mask : BitVec 4) (data : Vector (Option Word) 4)
    (k : Fin 4) : (m.storeBurst b phys pos mask data).read (dramAddr b phys (4 * pos + k.val)) =
      if mask.getLsbD k.val then data.get k else m.read (dramAddr b phys (4 * pos + k.val)) := by
  have step : ∀ (l : List (Fin 4)) (m : Dram), l.Nodup →
      (l.foldl (fun m j => if mask.getLsbD j.val then m.store (dramAddr b phys (4 * pos + j.val)) (data.get j) else m)
        m).read (dramAddr b phys (4 * pos + k.val)) =
      if k ∈ l ∧ mask.getLsbD k.val = true then data.get k else m.read (dramAddr b phys (4 * pos + k.val)) := by
    intro l
    induction l with
    | nil => intro m _; simp
    | cons j l ih =>
      intro m hl
      obtain ⟨hj, hl⟩ := List.nodup_cons.1 hl
      rw [List.foldl_cons, ih _ hl]
      by_cases hkj : k = j
      · subst hkj
        rw [if_neg fun h => hj h.1]
        by_cases hm : mask.getLsbD k.val = true
        · rw [if_pos hm, if_pos ⟨List.mem_cons_self, hm⟩, Dram.read_store_self]
        · rw [if_neg hm, if_neg fun h => hm h.2]
      · have haddr : dramAddr b phys (4 * pos + j.val) ≠ dramAddr b phys (4 * pos + k.val) := fun h => hkj (Fin.ext (by
          unfold dramAddr at h
          omega))
        have hother : (if mask.getLsbD j.val then m.store (dramAddr b phys (4 * pos + j.val)) (data.get j) else m).read
            (dramAddr b phys (4 * pos + k.val)) = m.read (dramAddr b phys (4 * pos + k.val)) := by
          split
          · exact Dram.read_store_of_ne m _ haddr
          · rfl
        rw [hother]
        simp only [List.mem_cons, hkj, false_or]
  have hmem : ∀ k : Fin 4, k ∈ [(0 : Fin 4), 1, 2, 3] := by decide
  refine (step [0, 1, 2, 3] m (by decide)).trans ?_
  simp only [hmem k, true_and]

theorem oneHot_getLsbD : ∀ k j : Fin 4, (BitVec.ofNat 4 (2 ^ k.val)).getLsbD j.val = Decidable.decide (j = k) := by decide

theorem allOnes_getLsbD (k : Fin 4) : (BitVec.allOnes 4).getLsbD k.val = true := by
  revert k
  decide

/-! ### Queues with distinct tags -/

theorem eraseP_eq_filter_tag {l : List Record} (h : (l.map Record.tag).Nodup) (r : Record) :
    (l.eraseP fun q => q.tag == r.tag) = l.filter fun q => q.tag ≠ r.tag := by
  induction l with
  | nil => rfl
  | cons q l ih =>
    obtain ⟨hq, hl⟩ := List.nodup_cons.1 h
    by_cases htag : q.tag = r.tag
    · rw [List.eraseP_cons_of_pos (by simpa using htag), List.filter_cons_of_neg (by simp [htag])]
      refine (List.filter_eq_self.2 fun x hx => ?_).symm
      simp only [decide_eq_true_eq]
      exact fun hxr => hq (List.mem_map.2 ⟨x, hx, hxr.trans htag.symm⟩)
    · rw [List.eraseP_cons_of_neg (by simpa using htag), List.filter_cons_of_pos (by simpa using htag), ih hl]

namespace State

variable {ready : BitVec 4} {drive : Option BurstData} {ptr : Requester} {a : Action} {b : BankId} {who : Requester}
  {r : Record} {p : PortId}

/-! ### The burst of a client -/

theorem moveBurst_dram_read (h : r.kind = .read) : (s.moveBurst r drive).dram = s.dram := by
  unfold moveBurst
  simp only [h, drive_dram]

theorem moveBurst_dram_write (h : r.kind = .write) : (s.moveBurst r drive).dram =
    s.dram.storeBurst r.bank (s.physOf r.bank) r.position r.mask (r.writeData drive) := by
  unfold moveBurst
  simp only [h]

theorem issueBurst_client_eq : s.issueBurst (.port p) r drive = { s with
    ports := (s.issueBurst (.port p) r drive).ports, regions := (s.issueBurst (.port p) r drive).regions
    banks := (s.issueBurst (.port p) r drive).banks, bus := (s.moveBurst r drive).bus
    dram := (s.moveBurst r drive).dram } := by
  change (s.moveBurst r drive).burstClient p r = { s with
    ports := ((s.moveBurst r drive).burstClient p r).ports, regions := ((s.moveBurst r drive).burstClient p r).regions
    banks := ((s.moveBurst r drive).burstClient p r).banks, bus := (s.moveBurst r drive).bus
    dram := (s.moveBurst r drive).dram }
  have hm := s.moveBurst_eq r drive
  generalize s.moveBurst r drive = m at hm ⊢
  have hb := m.burstClient_eq p r
  generalize m.burstClient p r = v at hb ⊢
  rw [hb, hm]

/-- A burst that is not its record's last (R25, R46). -/
theorem issueBurst_goesOn (h : ¬r.length ≤ r.burstsDone + 1) (q : PortId) :
    (s.issueBurst (.port p) r drive).regions = s.regions ∧
    (s.issueBurst (.port p) r drive).ports.get q =
      if p = q then
        { s.ports.get p with
          queue := (s.ports.get p).queue.map fun x => if x.tag == r.tag then r.moved else x
          outbound := (s.ports.get p).outbound ++ [.beat r.tag r.burstsDone] }
      else s.ports.get q := by
  change ((s.moveBurst r drive).burstClient p r).regions = s.regions ∧
    ((s.moveBurst r drive).burstClient p r).ports.get q = _
  have hm : (s.moveBurst r drive).ports = s.ports ∧ (s.moveBurst r drive).regions = s.regions := by
    rw [moveBurst_eq]
    exact ⟨rfl, rfl⟩
  rw [← hm.1, ← hm.2]
  generalize s.moveBurst r drive = m
  unfold burstClient advanceClient
  dsimp only
  rw [if_neg h]
  have hports : (((m.notify p (.beat r.tag r.burstsDone)).modPort p fun k =>
      { k with queue := k.queue.map fun x => if x.tag == r.tag then r.moved else x }).ports.get q) =
      if p = q then
        { m.ports.get p with
          queue := (m.ports.get p).queue.map fun x => if x.tag == r.tag then r.moved else x
          outbound := (m.ports.get p).outbound ++ [.beat r.tag r.burstsDone] }
      else m.ports.get q := by
    simp only [notify, modPort, get_put_self, put_put]
    by_cases hq : p = q
    · subst hq
      rw [if_pos rfl, get_put_self]
    · rw [if_neg hq, get_put_of_ne _ hq]
  split
  · exact ⟨rfl, hports⟩
  · exact ⟨rfl, hports⟩

/-- A record's last burst (R25, R26, R46). -/
theorem issueBurst_ends (h : r.length ≤ r.burstsDone + 1) (q : PortId) :
    s.CountsLowered (s.issueBurst (.port p) r drive) [r] ∧
    (s.issueBurst (.port p) r drive).ports.get q =
      if p = q then
        { s.ports.get p with
          queue := (s.ports.get p).queue.eraseP fun x => x.tag == r.tag
          outbound := (s.ports.get p).outbound ++
            [.beat r.tag r.burstsDone, .done r.tag .ok (r.burstsDone + 1) r.preempted] }
      else s.ports.get q := by
  change s.CountsLowered ((s.moveBurst r drive).burstClient p r) [r] ∧
    ((s.moveBurst r drive).burstClient p r).ports.get q = _
  have hm : (s.moveBurst r drive).ports = s.ports ∧ (s.moveBurst r drive).regions = s.regions := by
    rw [moveBurst_eq]
    exact ⟨rfl, rfl⟩
  rw [← hm.1]
  unfold CountsLowered
  rw [← hm.2]
  generalize s.moveBurst r drive = m
  unfold burstClient
  dsimp only
  rw [if_pos h]
  refine ⟨fun i => ?_, ?_⟩
  · rw [finishClient_regions]
    exact (m.notify p (.beat r.tag r.burstsDone)).releaseAll_counts [{ r with burstsDone := r.burstsDone + 1 }] i
  · rw [finishClient_get]
    by_cases hq : p = q
    · subst hq
      rw [if_pos rfl, if_pos rfl, notify_get_self]
      simp only [List.append_assoc, List.singleton_append, Record.doneNotice]
    · rw [if_neg hq, if_neg hq]
      exact get_put_of_ne _ hq _

/-! ### The window around a burst -/

theorem choice_burst (h : s.choice ready = some (ptr, .burst who r)) :
    s.mode.sched.running = true ∧ (∃ phys, (s.banks.get r.bank).state = .opened r.row phys) ∧
    (∀ p, who = .port p → s.sampled ready p = true) ∧ r ∈ s.queueOf who := by
  obtain ⟨hrun, ⟨hopen, -, -, hready⟩, older, younger, hsplit, -⟩ := choice_grants h
  have hready' : ∀ p, who = .port p → s.sampled ready p = true := fun p hp => by
    have := hready p hp
    rwa [begun_port] at this
  rw [begun_queueOf] at hsplit
  rw [begun_eq] at hrun hopen
  exact ⟨hrun, hopen, hready', by rw [hsplit]; simp⟩

/-- A burst leaves its bank open, so that no drain ends in its window. -/
theorem commanded_not_drained (h : s.choice ready = some (ptr, .burst who r)) : ¬(s.commanded ready drive).DrainComplete := by
  intro hd
  obtain ⟨-, ⟨phys, hopen⟩, -⟩ := choice_burst h
  have hb := hd.2 r.bank
  rw [commanded_bank h, issue, issueBurst_get, if_pos rfl, begun_eq] at hb
  unfold Bank.openRow? at hb
  dsimp only at hb
  rw [hopen] at hb
  cases hb

theorem not_flips_of_burst (h : s.choice ready = some (ptr, .burst who r)) : ¬s.FlipsIn ready :=
  fun hf => hf.no_burst _ _ _ h

/-- The window of a burst: the queues count it, and the timers pass (R54, R55, R72). -/
theorem window_burst (hp : s.PagesSound) (hc : s.ConditioningSound) (hx : s.NoExpiry)
    (h : s.choice ready = some (ptr, .burst who r)) (hb : (s.commanded ready drive).StallsBelow) :
    ∃ arbiter, s.window ready drive = { (s.commanded ready drive).waitedAll with arbiter := arbiter }.passed := by
  have hf := not_flips_of_burst h
  obtain ⟨hframe, -, hkept⟩ := counted_calm hf hb
  obtain ⟨hmode, hevents⟩ := hkept fun hd => commanded_not_drained h hd.2
  have hcommanded : (s.commanded ready drive).waitedAll.mode = s.mode ∧ (s.commanded ready drive).waitedAll.events = s.events := by
    unfold waitedAll
    dsimp only
    rw [commanded_eq]
    exact ⟨rfl, rfl⟩
  refine ⟨(s.counted ready drive).arbiter, ?_⟩
  rw [window_quiet hp hc hf hx (not_ends_of_choice hc h)]
  congr 1
  rw [hmode, hevents, ← hcommanded.1, ← hcommanded.2] at hframe
  exact hframe

theorem commanded_burst (h : s.choice ready = some (ptr, .burst who r)) : s.commanded ready drive =
    { (s.begun ready).issueBurst who r drive with arbiter := { s.arbiter with pointer := ptr } } := commanded_of_some h

/-- The fields of a window with a burst that do not hang on whose it is. -/
theorem window_burst_fields {arbiter : Arbiter} (h : s.choice ready = some (ptr, .burst who r))
    (hw : s.window ready drive = { (s.commanded ready drive).waitedAll with arbiter := arbiter }.passed) :
    (s.window ready drive).refresh.accounts = s.refresh.accounts ∧
    (s.window ready drive).dram = ((s.begun ready).moveBurst r drive).dram ∧
    (s.window ready drive).regions = ((s.begun ready).issueBurst who r drive).regions ∧
    (∀ b, ((s.window ready drive).banks.get b).pins =
      if r.bank = b then s.burstPins who r else (s.banks.get b).pins) ∧
    ∀ p, (s.window ready drive).ports.get p = Port.tick
      { ((s.begun ready).issueBurst who r drive).ports.get p with
        queue := (((s.begun ready).issueBurst who r drive).ports.get p).queue.map
          (Record.waited !(((s.begun ready).issueBurst who r drive).ports.get p).ready) } := by
  have hpins : ∀ b, (((s.begun ready).issueBurst who r drive).banks.get b).pins =
      if r.bank = b then s.burstPins who r else (s.banks.get b).pins := fun b => by
    have hbanks : (s.begun ready).banks = s.banks := by rw [begun_eq]
    have hburst : (s.begun ready).burstPins who r = s.burstPins who r := by
      unfold burstPins
      rw [hbanks]
    rw [issueBurst_get, hburst, hbanks]
    split <;> rfl
  have hissue := (s.begun ready).issueBurst_eq who r drive
  have hbegun : (s.begun ready).refresh = s.refresh := by rw [begun_eq]
  rw [hw, commanded_burst h]
  generalize ((s.begun ready).issueBurst who r drive) = v at hissue hpins ⊢
  have hv : v.refresh = s.refresh ∧ v.dram = ((s.begun ready).moveBurst r drive).dram := by
    rw [hissue]
    exact ⟨hbegun, rfl⟩
  unfold passed waitedAll
  dsimp only
  refine ⟨by rw [hv.1], hv.2, rfl, fun b => ?_, fun p => ?_⟩
  · rw [get_map]
    exact hpins b
  · rw [get_map, get_map]

end State

end Sys2Proof.Machine

end

section
/-! PROOFS. The burst of a client record (2.4, 3.4, 5.5). -/

-- One proof after another: a thread for each would reserve more memory than the check allows.
set_option Elab.async false

namespace Sys2Proof.Machine

variable {s t u : State}

/-- The records after a burst of `r` that is not its last: `r` has just moved, and the others have waited (R46, R54, R55). -/
theorem waited_moved (l : List Record) (r : Record) :
    (l.map fun x => if x.tag == r.tag then r.moved else x).map (Record.waited false) =
      l.map fun x => if x.tag = r.tag then { r with state := .active 0, burstsDone := r.burstsDone + 1 }
        else x.waited false := by
  rw [List.map_map]
  refine List.map_congr_left fun x _ => ?_
  by_cases hx : x.tag = r.tag
  · simp [hx, Record.waited, Record.moved]
  · simp [hx]

namespace State

variable {ready : BitVec 4} {drive : Option BurstData} {ptr : Requester} {r : Record} {p : PortId}

theorem portWaited_tick (p : PortId) : Port.tick { (s.begun ready).ports.get p with
    queue := ((s.begun ready).ports.get p).queue.map (Record.waited !((s.begun ready).ports.get p).ready) } =
      s.portWaited ready p := by
  rw [← portWaited_eq]
  unfold waitedAll
  dsimp only
  rw [get_map, get_map]

/-- A client's burst touches its own port alone. -/
theorem issueBurst_other {q : PortId} (hq : p ≠ q) :
    (s.issueBurst (.port p) r drive).ports.get q = s.ports.get q := by
  by_cases hl : r.length ≤ r.burstsDone + 1
  · rw [(issueBurst_ends hl q).2, if_neg hq]
  · rw [(issueBurst_goesOn hl q).2, if_neg hq]

theorem issueBurst_ready : ((s.issueBurst (.port p) r drive).ports.get p).ready = (s.ports.get p).ready := by
  by_cases hl : r.length ≤ r.burstsDone + 1
  · rw [(issueBurst_ends hl p).2, if_pos rfl]
  · rw [(issueBurst_goesOn hl p).2, if_pos rfl]

/-- The port of the burst shows a high sample, and the others are as they were: no count comes nearer to the limit. -/
theorem NoAbort.client (ha : s.NoAbort ready) (h : s.choice ready = some (ptr, .burst (.port p) r)) :
    (s.commanded ready drive).StallsBelow := by
  intro q hq x hx n hn
  obtain ⟨-, -, hsample, -⟩ := choice_burst h
  have hports : (s.commanded ready drive).ports = ((s.begun ready).issueBurst (.port p) r drive).ports := by
    rw [commanded_burst h]
  rw [commanded_runPage]
  rw [hports] at hq hx
  by_cases hpq : p = q
  · subst hpq
    rw [issueBurst_ready, begun_port] at hq
    exact absurd ((hsample p rfl).symm.trans hq) (by decide)
  · rw [issueBurst_other hpq] at hq hx
    rw [begun_port] at hq
    rw [begun_queue] at hx
    exact ha q hq x hx n hn

/-- What a client's burst leaves alone (R46, R80). -/
theorem commanded_client_eq (h : s.choice ready = some (ptr, .burst (.port p) r)) : s.commanded ready drive = { s with
    ports := (s.commanded ready drive).ports, regions := (s.commanded ready drive).regions
    banks := (s.commanded ready drive).banks, arbiter := (s.commanded ready drive).arbiter
    bus := (s.commanded ready drive).bus, dram := (s.commanded ready drive).dram, decided := false } := by
  have hissue := (s.begun ready).issueBurst_client_eq (p := p) (r := r) (drive := drive)
  have hbegun := s.begun_eq ready
  rw [commanded_burst h]
  generalize (s.begun ready).issueBurst (.port p) r drive = v at hissue ⊢
  generalize ((s.begun ready).moveBurst r drive).bus = bus at hissue
  generalize ((s.begun ready).moveBurst r drive).dram = dram at hissue
  generalize s.begun ready = k at hissue hbegun
  rw [hissue, hbegun]

theorem client_frame {v : State} {arbiter : Arbiter} (hv : v = { s with
    ports := v.ports, regions := v.regions, banks := v.banks, arbiter := v.arbiter, bus := v.bus, dram := v.dram
    decided := false }) (ht : t = { v.waitedAll with arbiter := arbiter }.passed) : t = { s with
      decided := true
      ports := t.ports
      hostQueue := s.hostQueue.map (Record.waited false)
      regions := t.regions
      banks := t.banks
      refresh := t.refresh
      credit := t.credit
      arbiter := t.arbiter
      bus := t.bus
      dram := t.dram } := by
  rw [ht]
  unfold passed waitedAll
  dsimp only
  rw [hv]

/-- The port of the burst at the window's end: its queue has counted the window under a high sample. -/
theorem client_port (hs : s.sampled ready p = true) {queue : List Record} {sent : List Notice} {v : State}
    (hv : v.ports.get p = { (s.begun ready).ports.get p with
      queue := queue, outbound := ((s.begun ready).ports.get p).outbound ++ sent }) :
    Port.tick { v.ports.get p with queue := (v.ports.get p).queue.map (Record.waited !(v.ports.get p).ready) } =
      (s.beginWindow.ports.get p).afterDecision true (queue.map (Record.waited false)) sent := by
  rw [hv, begun_port, hs]
  rfl

end State

end Sys2Proof.Machine

open Sys2Proof Sys2Proof.Machine

/-- Settles O56: the burst moves its record, and the window counts the rest. -/
theorem clientBurstMoves : Obligations.ClientBurstMoves := by
  intro s ready drive ptr p r hr hp hc hq _ ha hx h last moved at4
  obtain ⟨-, -, hsample, hmem⟩ := State.choice_burst h
  have hsampled := hsample p rfl
  have hsound := hq.1 p
  have hleft : r.burstsDone < r.length := hsound.burstsLeft r hmem
  obtain ⟨arbiter, hw⟩ := State.window_burst (drive := drive) hp hc hx h (ha.client h)
  obtain ⟨hacc, hdram, hregions, hpins, hports⟩ := State.window_burst_fields h hw
  have hv := State.commanded_client_eq (drive := drive) h
  have hbegun : (s.begun ready).regions = s.regions ∧ (s.begun ready).dram = s.dram ∧
      (s.begun ready).physOf r.bank = ((s.banks.get r.bank).physRow?).getD 0 := by
    rw [State.begun_eq]
    exact ⟨rfl, rfl, rfl⟩
  have hqueue := s.begun_queue ready p
  refine ⟨_, exec_windowDecision hr ready drive, ?_, hacc, fun q hqp => ?_, fun hnot => ⟨?_, ?_, ?_⟩, fun hl => ⟨?_, ?_, ?_⟩,
    fun b hb => ?_, State.window_burstBank hp h, fun hk => ?_, fun hk hword => ⟨fun w hd => ?_, fun hd k => ?_, fun a hout => ?_⟩⟩
  · exact State.client_frame hv hw
  · rw [hports q, State.issueBurst_other (Ne.symm hqp)]
    exact State.portWaited_tick q
  · have hon := (State.issueBurst_goesOn (s := s.begun ready) (drive := drive) (p := p) (r := r) (by omega) p).2
    rw [if_pos rfl] at hon
    rw [hports p, State.client_port hsampled hon, hqueue, waited_moved]
  · rw [hregions, (State.issueBurst_goesOn (by omega) p).1, hbegun.1]
  · rw [hpins, if_pos rfl, State.burstPins, if_neg (by omega)]
  · have hends := (State.issueBurst_ends (s := s.begun ready) (drive := drive) (p := p) (r := r) (by omega) p).2
    rw [if_pos rfl] at hends
    rw [hports p, State.client_port hsampled hends, hqueue, eraseP_eq_filter_tag hsound.tagsDistinct]
  · exact (State.issueBurst_ends (s := s.begun ready) (drive := drive) (p := p) (r := r) (by omega) p).1.of_regions
      hbegun.1.symm hregions
  · rw [hpins, if_pos rfl, State.burstPins, if_pos (by omega)]
  · rw [hpins, if_neg (Ne.symm hb)]
  · rw [hdram, State.moveBurst_dram_read hk, hbegun.2.1]
  · subst hd
    rw [hdram, State.moveBurst_dram_write hk, hbegun.2.1, hbegun.2.2, Record.mask_client hword, Record.writeData_client hword]
    refine ⟨?_, ?_, ?_, ?_⟩
    · exact (Dram.read_storeBurst _ _ _ _ _ _ 0).trans (if_pos (allOnes_getLsbD 0))
    · exact (Dram.read_storeBurst _ _ _ _ _ _ 1).trans (if_pos (allOnes_getLsbD 1))
    · exact (Dram.read_storeBurst _ _ _ _ _ _ 2).trans (if_pos (allOnes_getLsbD 2))
    · exact (Dram.read_storeBurst _ _ _ _ _ _ 3).trans (if_pos (allOnes_getLsbD 3))
  · subst hd
    rw [hdram, State.moveBurst_dram_write hk, hbegun.2.1, hbegun.2.2, Record.mask_client hword, Record.writeData_client hword]
    refine (Dram.read_storeBurst _ _ _ _ _ _ k).trans ((if_pos (allOnes_getLsbD k)).trans ?_)
    fin_cases k <;> rfl
  · rw [hdram, State.moveBurst_dram_write hk, hbegun.2.1, hbegun.2.2]
    exact Dram.read_storeBurst_of_outside _ _ _ _ _ _ hout

end

section
/-! PROOFS. The burst of a host record (3.4, 10.6). -/

-- One proof after another: a thread for each would reserve more memory than the check allows.
set_option Elab.async false

namespace Sys2Proof.Machine

variable {s t u : State}

namespace State

variable {ready : BitVec 4} {drive : Option BurstData} {ptr : Requester} {r : Record} {k : SlotId} {word : Fin 4}

/-- The word that the tap samples for a host READ (R6, R170). -/
theorem sampleWord_slot (ho : r.origin = .slot k) (hw : r.word = some word) :
    (s.sampleWord r).host = { s.host with slots := put s.host.slots k { s.host.slots.get k with
      data := if r.kind = .read then
          (s.dram.read (dramAddr r.bank (s.physOf r.bank) (4 * r.position + word.val))).getD (Config.undefinedWord s.freeCount)
        else (s.host.slots.get k).data } } := by
  have hslot : r.slot = k := by
    unfold Record.slot
    rw [ho]
  unfold sampleWord
  rw [hw, hslot]
  cases hk : r.kind with
  | write =>
    rw [if_neg (by decide)]
    dsimp only
    rw [put_get_self]
  | read =>
    rw [if_pos rfl]
    dsimp only [Option.getD]
    cases s.dram.read (dramAddr r.bank (s.physOf r.bank) (4 * r.position + word.val)) <;> rfl

/-- The burst of a host record at its slot and its queue (R46, R170). -/
theorem issueBurst_host (ho : r.origin = .slot k) (hw : r.word = some word) :
    (s.issueBurst .host r drive).host = { s.host with slots := put s.host.slots k { s.host.slots.get k with
      state := .done
      data := if r.kind = .read then
          (s.dram.read (dramAddr r.bank (s.physOf r.bank) (4 * r.position + word.val))).getD (Config.undefinedWord s.freeCount)
        else (s.host.slots.get k).data } } ∧
    (s.issueBurst .host r drive).hostQueue = s.hostQueue.eraseP (fun q => q.tag == r.tag) ∧
    s.CountsLowered (s.issueBurst .host r drive) [r] ∧ (s.issueBurst .host r drive).ports = s.ports := by
  have hslot : r.slot = k := by
    unfold Record.slot
    rw [ho]
  have hmoved := s.moveBurst_eq r drive
  have hread : r.kind = .read → (s.moveBurst r drive).dram = s.dram := moveBurst_dram_read
  have hphys : (s.moveBurst r drive).physOf r.bank = s.physOf r.bank := by
    unfold physOf
    rw [moveBurst_get, if_pos rfl]
    rfl
  change ((s.moveBurst r drive).burstHost r).host = _ ∧ ((s.moveBurst r drive).burstHost r).hostQueue = _ ∧
    s.CountsLowered ((s.moveBurst r drive).burstHost r) [r] ∧ ((s.moveBurst r drive).burstHost r).ports = _
  generalize s.moveBurst r drive = m at hmoved hread hphys ⊢
  have hm : m.host = s.host ∧ m.hostQueue = s.hostQueue ∧ m.regions = s.regions ∧ m.ports = s.ports ∧
      m.freeCount = s.freeCount := by
    rw [hmoved]
    exact ⟨rfl, rfl, rfl, rfl, rfl⟩
  obtain ⟨hhost, hqueue, hregions, hports, hfree⟩ := hm
  have hsampled := m.sampleWord_eq r
  have hsample := m.sampleWord_slot ho hw
  rw [hhost, hphys, hfree] at hsample
  rw [burstHost_eq]
  generalize m.sampleWord r = w at hsampled hsample ⊢
  have hw' : w.hostQueue = s.hostQueue ∧ w.regions = s.regions ∧ w.ports = s.ports := by
    rw [hsampled]
    exact ⟨hqueue, hregions, hports⟩
  have hdone : (w.hostDone r).host = { w.host with
      slots := put w.host.slots k { w.host.slots.get k with state := .done } } := by
    have hrelease : (w.release r).host = w.host := by rw [release_eq]
    unfold hostDone modSlot
    dsimp only
    rw [hrelease, hslot]
  refine ⟨?_, ?_, ?_, ?_⟩
  · rw [hdone, hsample]
    dsimp only
    rw [get_put_self, put_put]
    cases hk : r.kind with
    | write => rfl
    | read => simp only [hread hk]
  · rw [← hw'.1]
    rfl
  · exact CountsLowered.of_regions (w.releaseAll_counts [r]) hw'.2.1.symm rfl
  · rw [← hw'.2.2]
    unfold hostDone
    rw [release_eq]
    rfl

/-- A host's burst leaves the ports alone. -/
theorem NoAbort.host (ha : s.NoAbort ready) (h : s.choice ready = some (ptr, .burst .host r)) (ho : r.origin = .slot k)
    (hw : r.word = some word) : (s.commanded ready drive).StallsBelow := by
  intro q hq x hx n hn
  have hports : (s.commanded ready drive).ports = (s.begun ready).ports := by
    rw [commanded_burst h]
    exact (issueBurst_host ho hw).2.2.2
  rw [commanded_runPage]
  rw [hports] at hq hx
  rw [begun_port] at hq
  rw [begun_queue] at hx
  exact ha q hq x hx n hn

/-- What the window of a host's burst leaves alone (R46, R80, R170). -/
theorem host_frame {v : State} {arbiter : Arbiter} (hv : v = { s with
    host := v.host, ports := v.ports, hostQueue := v.hostQueue, regions := v.regions, banks := v.banks
    arbiter := v.arbiter, bus := v.bus, dram := v.dram, decided := false, freeCount := v.freeCount })
    (ht : t = { v.waitedAll with arbiter := arbiter }.passed) : t = { s with
      decided := true
      host := v.host
      ports := t.ports
      hostQueue := v.hostQueue.map (Record.waited false)
      regions := t.regions
      banks := t.banks
      refresh := t.refresh
      credit := t.credit
      arbiter := t.arbiter
      bus := t.bus
      dram := t.dram
      freeCount := t.freeCount } := by
  rw [ht]
  unfold passed waitedAll
  dsimp only
  rw [hv]

theorem commanded_host_eq (h : s.choice ready = some (ptr, .burst .host r)) : s.commanded ready drive = { s with
    host := (s.commanded ready drive).host, ports := (s.commanded ready drive).ports
    hostQueue := (s.commanded ready drive).hostQueue, regions := (s.commanded ready drive).regions
    banks := (s.commanded ready drive).banks, arbiter := (s.commanded ready drive).arbiter
    bus := (s.commanded ready drive).bus, dram := (s.commanded ready drive).dram, decided := false
    freeCount := (s.commanded ready drive).freeCount } := by
  have hissue := (s.begun ready).issueBurst_eq .host r drive
  have hbegun := s.begun_eq ready
  rw [commanded_burst h]
  generalize (s.begun ready).issueBurst .host r drive = v at hissue ⊢
  generalize ((s.begun ready).moveBurst r drive).bus = bus at hissue
  generalize ((s.begun ready).moveBurst r drive).dram = dram at hissue
  generalize s.begun ready = k at hissue hbegun
  rw [hissue, hbegun]

end State

end Sys2Proof.Machine

open Sys2Proof Sys2Proof.Machine

/-- Settles O57: the host's burst ends its record at its slot, and the window counts the rest. -/
theorem hostBurstCompletesSlot : Obligations.HostBurstCompletesSlot := by
  intro s ready drive ptr k r word rest hr hp hc _ ha hx h hqueue ho hstate hword a
  obtain ⟨arbiter, hw⟩ := State.window_burst (drive := drive) hp hc hx h (ha.host h ho hword)
  obtain ⟨hacc, hdram, hregions, hpins, hports⟩ := State.window_burst_fields h hw
  have hv := State.commanded_host_eq (drive := drive) h
  have hbegun : (s.begun ready).regions = s.regions ∧ (s.begun ready).dram = s.dram ∧
      (s.begun ready).physOf r.bank = ((s.banks.get r.bank).physRow?).getD 0 ∧ (s.begun ready).host = s.host ∧
      (s.begun ready).hostQueue = s.hostQueue ∧ (s.begun ready).freeCount = s.freeCount := by
    rw [State.begun_eq]
    exact ⟨rfl, rfl, rfl, rfl, rfl, rfl⟩
  obtain ⟨hregions', hdram', hphys, hhost', hqueue', hfree⟩ := hbegun
  obtain ⟨hhost, hleft, hcounts, hsame⟩ := (s.begun ready).issueBurst_host (drive := drive) ho hword
  rw [hhost', hdram', hphys, hfree] at hhost
  rw [hqueue', hqueue, List.eraseP_cons_of_pos (by simp)] at hleft
  have hcommanded := State.commanded_burst (drive := drive) h
  have hactive : r.isActive = false := by
    unfold Record.isActive
    rw [hstate]
  refine ⟨_, exec_windowDecision hr ready drive, ?_, hacc, fun p => ?_, ?_, fun b => ?_, State.window_burstBank hp h, fun hk => ?_,
    fun hk => ⟨?_, fun b hb => ?_⟩⟩
  · refine (State.host_frame hv hw).trans ?_
    have hslots : (s.commanded ready drive).host = _ := (congrArg State.host hcommanded).trans hhost
    have hrest : (s.commanded ready drive).hostQueue = rest := (congrArg State.hostQueue hcommanded).trans hleft
    rw [hslots, hrest]
    rfl
  · rw [hports p, hsame]
    exact State.portWaited_tick p
  · exact hcounts.of_regions hregions'.symm hregions
  · rw [hpins]
    by_cases hb : r.bank = b
    · subst hb
      rw [if_pos rfl, State.burstPins, hactive]
      rfl
    · rw [if_neg hb]
  · rw [hdram, State.moveBurst_dram_read hk, hdram']
  · rw [hdram, State.moveBurst_dram_write hk, hdram', hphys, Record.mask_host hword hk, Record.writeData_host hword]
    refine (Dram.read_storeBurst _ _ _ _ _ _ word).trans ((if_pos ?_).trans (get_put_self ..))
    rw [oneHot_getLsbD, decide_eq_true rfl]
  · rw [hdram, State.moveBurst_dram_write hk, hdram', hphys, Record.mask_host hword hk]
    by_cases hin : ∃ j : Fin 4, b = dramAddr r.bank (((s.banks.get r.bank).physRow?).getD 0) (4 * r.position + j.val)
    · obtain ⟨j, rfl⟩ := hin
      refine (Dram.read_storeBurst _ _ _ _ _ _ j).trans (if_neg ?_)
      rw [oneHot_getLsbD, decide_eq_true_iff]
      rintro rfl
      exact hb rfl
    · exact Dram.read_storeBurst_of_outside _ _ _ _ _ _ fun j hj => hin ⟨j, hj⟩

end

section
/-! PROOFS. The expiry of the interval timer, by its own command and inside a window (7.2, 7.5, 7.6): what leads to it does not
read the count, and it does not read what ends the window. -/

-- One proof after another: a thread for each would reserve more memory than the check allows.
set_option Elab.async false

namespace Sys2Proof.Machine

variable {s t u : State}

namespace State

/-- The state with the interval count at `n` (R112). -/
def timed (n : Nat) (s : State) : State := { s with refresh := { s.refresh with elapsed := n } }

variable {n : Nat}

theorem timed_released (h : s.Released) : (s.timed n).Released := h

theorem timed_offers : (s.timed n).offers = s.offers := by
  funext who
  have step : ∀ l older, (s.timed n).offersFrom who older l = s.offersFrom who older l := by
    intro l
    induction l with
    | nil => exact fun _ => rfl
    | cons r rest ih =>
      intro older
      have hoffer : (s.timed n).offer who older r = s.offer who older r := rfl
      simp only [offersFrom, hoffer, ih]
  exact step _ _

/-- A decision reads the queues through what they offer and through the three searches for a bank that is free of them. -/
theorem choose_congr (ht : t = { s with ports := t.ports, refresh := { s.refresh with elapsed := t.refresh.elapsed } })
    (hoffers : t.offers = s.offers) (hclose : t.drainClose = s.drainClose) (hidle : t.idleClosable = s.idleClosable)
    (hpull : t.pullInEligible = s.pullInEligible) : t.choose = s.choose := by
  have hit : t.rowHit = s.rowHit := by
    funext who
    unfold rowHit
    rw [hoffers]
  have hstart : t.startAction = s.startAction := by
    funext who
    unfold startAction
    rw [hoffers]
  have hown : t.ownerAction = s.ownerAction := by
    funext who
    unfold ownerAction
    rw [hit, hstart]
  have hturn : t.ownerTurn = s.ownerTurn := by
    have howner : t.owner = s.owner := by rw [ht]; rfl
    unfold ownerTurn
    rw [hown, howner]
    rw [ht]
    rfl
  have hlate : t.overdueChoice = s.overdueChoice := by
    have hpage : t.runPage = s.runPage := by rw [ht]; rfl
    unfold overdueChoice overdueOffers
    rw [hoffers, hpage]
  have hfree : t.freeWindow = s.freeWindow := by
    unfold freeWindow idleClose pullIn
    rw [hlate, hclose, hit, hstart, hidle, hpull, ht]
    rfl
  unfold choose chooseRunning
  rw [hturn, hfree, ht]
  rfl

theorem timed_choose : (s.timed n).choose = s.choose := choose_congr rfl timed_offers rfl rfl rfl

/-! ### The phases of a window, at any count of the interval timer -/

theorem timed_post (k : EventKind) (src : Source) (tag : Option (Fin 16)) (d : Nat) :
    (s.timed n).post k src tag d = (s.post k src tag d).timed n := by
  have hevents : (s.timed n).events = s.events := rfl
  unfold post
  rw [hevents]
  split <;> rfl

theorem timed_release (r : Record) : (s.timed n).release r = (s.release r).timed n := by
  unfold release
  dsimp only
  split <;> rfl

theorem timed_finishClient (p : PortId) (r : Record) (st : FinishStatus) :
    (s.timed n).finishClient p r st = (s.finishClient p r st).timed n := by
  unfold finishClient
  rw [timed_release]
  rfl

theorem timed_moveBurst (r : Record) (drive : Option BurstData) :
    (s.timed n).moveBurst r drive = (s.moveBurst r drive).timed n := by
  unfold moveBurst
  dsimp only
  split <;> rfl

theorem timed_burstClient (p : PortId) (r : Record) : (s.timed n).burstClient p r = (s.burstClient p r).timed n := by
  unfold burstClient
  dsimp only
  split
  · exact timed_finishClient (s := s.notify p _) ..
  · unfold advanceClient
    dsimp only
    split <;> rfl

theorem timed_sampleWord (r : Record) : (s.timed n).sampleWord r = (s.sampleWord r).timed n := by
  cases hk : r.kind with
  | write => simp only [sampleWord, hk]
  | read =>
    have hphys : (s.timed n).physOf r.bank = s.physOf r.bank := rfl
    have hdram : (s.timed n).dram = s.dram := rfl
    simp only [sampleWord, hk, hphys, hdram]
    split <;> rfl

theorem timed_burstHost (r : Record) : (s.timed n).burstHost r = (s.burstHost r).timed n := by
  unfold burstHost
  rw [timed_sampleWord, timed_release]
  rfl

/-- A retirement check commutes with what commutes with each retirement and hides none of what it reads (R119). -/
theorem retirementCheck_hom {G : State → State} {b : BankId} (hacc : ∀ s, (G s).account b = s.account b)
    (hregions : ∀ s, (G s).regions = s.regions) (hone : ∀ s, (G s).retireOne b = G (s.retireOne b)) (s : State) :
    (G s).retirementCheck b = G (s.retirementCheck b) := by
  have hmay : ∀ s, (G s).mayRetire b = s.mayRetire b := fun s => by
    simp only [mayRetire, owed, pointerNeedsRefresh, hacc, hregions]
  have key : ∀ k s, retireUpTo b k (G s) = G (retireUpTo b k s) := by
    intro k
    induction k with
    | zero => exact fun _ => rfl
    | succ k ih =>
      intro s
      simp only [retireUpTo, hmay, hone, ih]
      split <;> rfl
  unfold retirementCheck
  rw [hacc]
  exact key _ s

theorem timed_retirementCheck (b : BankId) : (s.timed n).retirementCheck b = (s.retirementCheck b).timed n := by
  refine retirementCheck_hom (G := timed n) (fun _ => rfl) (fun _ => rfl) (fun s => ?_) s
  have hacc : (s.timed n).account b = s.account b := rfl
  have hregions : (s.timed n).regions = s.regions := rfl
  unfold retireOne
  dsimp only
  rw [hacc, hregions]
  split <;> rfl

theorem timed_issue (drive : Option BurstData) (a : Action) : (s.timed n).issue drive a = (s.issue drive a).timed n := by
  cases a with
  | refresh b =>
    exact timed_retirementCheck (s := (((s.beginRefresh b).drive (.refresh b (s.account b).pointer)).noteRefresh b
      (s.account b).pointer).modAccount b Account.pay) b
  | burst who r =>
    cases who with
    | port p => exact (congrArg (fun u : State => u.burstClient p r) (timed_moveBurst r drive)).trans (timed_burstClient p r)
    | host => exact (congrArg (fun u : State => u.burstHost r) (timed_moveBurst r drive)).trans (timed_burstHost r)
  | _ => rfl

variable {ready : BitVec 4} {drive : Option BurstData}

theorem timed_begun : (s.timed n).begun ready = (s.begun ready).timed n := by
  have hdecided : (s.timed n).decided = s.decided := rfl
  unfold begun beginWindow
  rw [hdecided]
  split <;> rfl

theorem timed_choice : (s.timed n).choice ready = s.choice ready := timed_choose (s := s.sampleReady ready)

theorem timed_commanded : (s.timed n).commanded ready drive = (s.commanded ready drive).timed n := by
  cases h : s.choice ready with
  | none =>
    rw [commanded_of_none h, commanded_of_none (timed_choice.trans h), timed_begun]
    rfl
  | some x =>
    rw [commanded_of_some h, commanded_of_some (timed_choice.trans h), timed_begun, timed_issue]
    rfl

theorem timed_advanceWheel (hf : ∀ ret, ¬s.FlipsTo ret) : (s.timed n).advanceWheel = s.advanceWheel.timed n := by
  by_cases h : s.Wraps
  · rw [advanceWheel_of_waiting h hf, advanceWheel_of_waiting (s := s.timed n) h hf]
    rfl
  · rw [advanceWheel_of_inside h, advanceWheel_of_inside (s := s.timed n) h]
    rfl

theorem timed_aborts (p : PortId) (l : List Record) : l.foldl (abortRecord p) (s.timed n) = (l.foldl (abortRecord p) s).timed n :=
  List.foldl_hom _ fun s r => by
    unfold abortRecord
    rw [timed_finishClient, timed_post]

theorem timed_stallPort (p : PortId) : (s.timed n).stallPort p = (s.stallPort p).timed n := by
  unfold stallPort
  dsimp only
  have hports : (s.timed n).ports = s.ports := rfl
  rw [hports]
  split
  · rfl
  · exact timed_aborts (s := s.modPort p fun k => { k with queue := k.queue.map Record.stallMore }) p _

theorem timed_countWindow : (s.timed n).countWindow = s.countWindow.timed n :=
  List.foldl_hom (timed n) (l := allPorts) (init := s.mapRecords Record.grow) fun _ p => timed_stallPort p

theorem timed_settleDrain : (s.timed n).settleDrain = s.settleDrain.timed n := by
  have hdrained : (s.timed n).drained = s.drained := rfl
  have hmode : (s.timed n).mode = s.mode := rfl
  unfold settleDrain
  rw [hdrained, hmode]
  split
  · exact timed_post (s := s.setSched .held) ..
  · rfl

theorem timed_counted (hf : ¬s.FlipsIn ready) : (s.timed n).counted ready drive = (s.counted ready drive).timed n := by
  unfold counted
  rw [timed_commanded, timed_advanceWheel (no_flip hf), timed_countWindow, timed_settleDrain]

/-! ### An expiry and the end of the window -/

/-- The state with the window's end taken at the ports and the banks, and the bucket and the interval count as given (R72). -/
def clocked (c : CreditBucket) (n : Nat) (s : State) : State :=
  { s with
    decided := true
    ports := s.ports.map Port.tick
    banks := s.banks.map Bank.tick
    credit := c
    refresh := { s.refresh with elapsed := n } }

variable {c : CreditBucket}

theorem clocked_queueOf : (s.clocked c n).queueOf = s.queueOf := by
  funext who
  cases who with
  | port p =>
    change ((s.ports.map Port.tick).get p).queue = _
    rw [get_map]
    rfl
  | host => rfl

theorem clocked_activeOn (b : BankId) : (s.clocked c n).activeOn b = s.activeOn b := by
  unfold activeOn
  rw [outstanding_congr clocked_queueOf]

theorem clocked_post (k : EventKind) (src : Source) (tag : Option (Fin 16)) (d : Nat) :
    (s.clocked c n).post k src tag d = (s.post k src tag d).clocked c n := by
  have hevents : (s.clocked c n).events = s.events := rfl
  unfold post
  rw [hevents]
  split <;> rfl

theorem clocked_suspendBank (b : BankId) : (s.clocked c n).suspendBank b = (s.suspendBank b).clocked c n := by
  have hbanks : put (s.banks.map Bank.tick) b { (s.banks.map Bank.tick).get b with pins := 0 } =
      (put s.banks b { s.banks.get b with pins := 0 }).map Bank.tick := by
    refine vector_ext_get fun d => ?_
    rw [get_put, get_map, get_map, get_map, get_put]
    split <;> rfl
  have hports : (s.ports.map Port.tick).map (fun k : Port => { k with queue := k.queue.map (Record.suspend b) }) =
      (s.ports.map fun k : Port => { k with queue := k.queue.map (Record.suspend b) }).map Port.tick := by
    rw [Vector.map_map, Vector.map_map]
    rfl
  unfold suspendBank mapRecords modBank clocked
  dsimp only
  rw [hports, hbanks]

theorem clocked_expiryAt (b : BankId) : (s.clocked c n).expiryAt b = (s.expiryAt b).clocked c n := by
  have hacc : (s.clocked c n).account b = s.account b := rfl
  have hmod : (s.clocked c n).modAccount b (fun a => { a with debt := a.debt + 1 }) =
      (s.modAccount b fun a => { a with debt := a.debt + 1 }).clocked c n := rfl
  have hcritical : ∀ s : State, (s.clocked c n).critical b = s.critical b := fun _ => rfl
  unfold expiryAt
  dsimp only
  rw [hacc, hmod, hcritical, clocked_suspendBank, clocked_activeOn, clocked_post, clocked_post]
  split
  · split <;> rfl
  · rfl

theorem clocked_retirementCheck (b : BankId) : (s.clocked c n).retirementCheck b = (s.retirementCheck b).clocked c n := by
  refine retirementCheck_hom (G := clocked c n) (fun _ => rfl) (fun _ => rfl) (fun s => ?_) s
  have hacc : (s.clocked c n).account b = s.account b := rfl
  have hregions : (s.clocked c n).regions = s.regions := rfl
  unfold retireOne
  dsimp only
  rw [hacc, hregions]
  split <;> rfl

/-- The expiry after the end of the window is the expiry before it (R112). -/
theorem clocked_takeExpiry : (s.clocked c n).takeExpiry = s.takeExpiry.clocked c 0 := by
  have hrises : allBanks.foldl expiryAt (s.clocked c n) = (allBanks.foldl expiryAt s).clocked c n :=
    List.foldl_hom (clocked c n) fun _ b => clocked_expiryAt b
  have hchecks : ∀ u : State, allBanks.foldl State.retirementCheck (u.clocked c n) =
      (allBanks.foldl State.retirementCheck u).clocked c n := fun _ =>
    List.foldl_hom (clocked c n) fun _ b => clocked_retirementCheck b
  unfold takeExpiry
  dsimp only
  rw [hrises, hchecks]
  generalize allBanks.foldl State.retirementCheck (allBanks.foldl expiryAt s) = u
  rfl

theorem endWindow_clocked (hrun : s.mode.sched.running = true) :
    s.endWindow = s.clocked (s.credit.tick s.runPage.refillPeriod) (s.refresh.elapsed + 1) := by
  unfold endWindow clocked
  rw [hrun, if_pos rfl]

/-- An expiry ahead of the end of a window is the expiry after it, at the counts of the window's end (log 3). -/
theorem takeExpiry_endWindow {e : Nat} (hrun : s.mode.sched.running = true) (hd : s.runPage.refreshInterval ≤ e) :
    s.takeExpiry.endWindow = (((s.timed 0).endWindow.timed e).intervalExpiry).timed 1 := by
  have hlate : (s.timed 0).endWindow.timed e = s.clocked (s.credit.tick s.runPage.refillPeriod) e := by
    rw [endWindow_clocked (s := s.timed 0) hrun]
    rfl
  have hdue : (s.clocked (s.credit.tick s.runPage.refillPeriod) e).expiryDue = true := expiryDue_iff.2 ⟨hrun, hd⟩
  have hmode : s.takeExpiry.mode = s.mode := by rw [takeExpiry_eq]
  have hcredit : s.takeExpiry.credit = s.credit := by rw [takeExpiry_eq]
  have hpage : s.takeExpiry.runPage = s.runPage := congrArg (fun m => m.pages.get m.runSelect) hmode
  have hzero : s.takeExpiry.refresh.elapsed = 0 := rfl
  rw [hlate, intervalExpiry, if_pos hdue, clocked_takeExpiry, endWindow_clocked (by rw [hmode]; exact hrun), hcredit, hpage, hzero]
  generalize s.takeExpiry = x
  rfl

/-- The window with its interval count at 0 ends as it does where the expiry is taken in it, the expiry aside (log 3). -/
theorem window_expiry (hp : s.PagesSound) (hc : s.ConditioningSound) (hrun : s.mode.sched.running = true)
    (hd : s.runPage.refreshInterval ≤ s.refresh.elapsed) (hf : ¬s.FlipsIn ready) :
    s.window ready drive = ((((s.timed 0).window ready drive).timed s.refresh.elapsed).intervalExpiry).timed 1 := by
  have hends : ¬(s.counted ready drive).EndsConditioning := fun h => not_ends_of_running hc hrun ((counted_ends hp hc).1 h)
  have hrunning := (counted_running (drive := drive) hf).trans hrun
  have hpage := counted_runPage (drive := drive) hf
  have helapsed : (s.counted ready drive).refresh.elapsed = s.refresh.elapsed := by
    rw [counted_keeps hf]
    exact commanded_elapsed
  have hzero : (s.timed 0).window ready drive = ((s.counted ready drive).timed 0).takeDue.endWindow := by
    rw [window_counted, timed_counted hf]
  have hpos : 0 < s.runPage.refreshInterval := lt_of_lt_of_le (by decide) (hp.1 s.mode.runSelect).refreshInterval.1
  rw [hzero, window_counted]
  generalize s.counted ready drive = v at hends hrunning hpage helapsed ⊢
  have hrefill : (v.timed 0).runOutAll.refill = v.runOutAll.refill.timed 0 := by
    rw [refill_eq, refill_credit, v.runOutAll.refill_eq, v.runOutAll.refill_credit]
    rfl
  have hcalm : (v.timed 0).NoExpiry := fun _ => by
    change 0 < v.runPage.refreshInterval
    rw [hpage]
    exact hpos
  have hmode : v.runOutAll.refill.mode = v.mode := by rw [refill_eq]; rfl
  have hsame : v.runOutAll.refill.runPage = v.runPage := by rw [refill_eq]; rfl
  rw [ended_expiry hends (expiryDue_iff.2 ⟨hrunning, by rw [hpage, helapsed]; exact hd⟩), ended_quiet (s := v.timed 0) hends hcalm,
    ← runOutAll_refill_endWindow, hrefill]
  exact takeExpiry_endWindow (by rw [hmode]; exact hrunning) (by rw [hsame, hpage]; exact hd)

end State

end Sys2Proof.Machine

open Sys2Proof Sys2Proof.Machine

/-- Settles O59: the expiry by its own command is the one of the accounts, and a window takes it after all else. -/
theorem intervalExpiryRaisesDebts : Obligations.IntervalExpiryRaisesDebts := by
  intro s hr timed
  have htimed : timed = State.timed := rfl
  clear_value timed
  subst htimed
  refine ⟨fun h => ?_, fun hrun hd ha hn => ?_, fun ready drive hp hc hrun hd hf => ?_⟩
  · rw [exec_intervalExpiry hr, State.intervalExpiry_of_not_due]
    rw [← Bool.not_eq_true, State.expiryDue_iff]
    rintro ⟨hrun, hle⟩
    obtain h | h := h
    · exact absurd (h.symm.trans hrun) (by decide)
    · omega
  · have hx := State.takeExpiry_expired ha hn
    refine ⟨s.takeExpiry, ?_, ?_, hx.elapsed, hx.conditioning, hx.accounts, hx.rank, hx.banks, hx.events⟩
    · rw [exec_intervalExpiry hr, State.intervalExpiry, if_pos (State.expiryDue_iff.2 ⟨hrun, hd⟩)]
    · have hpreempt : s.preemptIn allBanks = fun r =>
          if r.isActive = true ∧ (s.account r.bank).debt = 7 then { r with state := .suspended, preempted := true } else r := by
        funext r
        unfold State.preemptIn
        simp only [mem_allBanks, true_and]
      rw [← hpreempt]
      exact hx.frame
  · have hreleased : ((s.timed 0).window ready drive).Released :=
      ((State.fixed_eq ((s.timed 0).window_fixed ready drive)).1).trans (State.timed_released hr)
    refine ⟨_, _, exec_windowDecision (s := s.timed 0) (State.timed_released hr) ready drive,
      exec_intervalExpiry (s := ((s.timed 0).window ready drive).timed s.refresh.elapsed) (State.timed_released hreleased), ?_⟩
    rw [exec_windowDecision hr, State.window_expiry hp hc hrun hd hf]

end

section
/-! PROOFS. The window and its stall counts: with the counts that reach the limit at 0, the decision is the same, and so is its
command (3.7, 6.5). -/

-- One proof after another: a thread for each would reserve more memory than the check allows.
set_option Elab.async false

namespace Sys2Proof.Machine

variable {s t u : State}

/-! ### Records with their stall counts taken back -/

/-- The record, with its stall count at 0 if it is one of `l`. -/
def eased (l : List Record) (r : Record) : Record := if r ∈ l then { r with state := .active 0 } else r

variable {l : List Record} {r : Record}

theorem eased_of_not_mem (h : r ∉ l) : eased l r = r := if_neg h

theorem eased_nil (r : Record) : eased [] r = r := eased_of_not_mem List.not_mem_nil

/-- Nothing but the state changes. -/
theorem eased_keeps (l : List Record) (r : Record) : eased l r = { r with state := (eased l r).state } := by
  unfold eased
  split <;> rfl

theorem eased_isActive (hl : ∀ r ∈ l, r.isActive = true) (r : Record) : (eased l r).isActive = r.isActive := by
  unfold eased
  split
  next h => exact (hl r h).symm
  · rfl

theorem eased_overlaps (q : Record) : (eased l q).overlaps r = q.overlaps r := by
  unfold eased
  split <;> rfl

theorem eased_kind (q : Record) : (eased l q).kind = q.kind := by
  unfold eased
  split <;> rfl

theorem hazardFree_eased (older : List Record) (q : Record) : hazardFree (older.map (eased l)) q = hazardFree older q := by
  simp only [hazardFree, List.all_map, Function.comp_def, eased_overlaps, eased_kind]

theorem Record.queued_or {r : Record} (h : r.isActive = true) (st : RecordState) (hst : st = .queued ∨ st = .suspended) :
    r.state ≠ st := by
  rintro rfl
  unfold Record.isActive at h
  obtain hst | hst := hst <;> rw [hst] at h <;> cases h

namespace State

/-- The state with the stall counts of the records `l` of each port at 0. -/
def ease (l : PortId → List Record) (s : State) : State :=
  { s with ports := Vector.ofFn fun p => { s.ports.get p with queue := (s.ports.get p).queue.map (eased (l p)) } }

theorem unstalled_eq (ready : BitVec 4) : s.unstalled ready = s.ease (s.stalledIn ready) := rfl

section Eased

variable {l : PortId → List Record}

theorem ease_port (p : PortId) : (s.ease l).ports.get p =
    { s.ports.get p with queue := (s.ports.get p).queue.map (eased (l p)) } := by
  simp [ease, Vector.get_eq_getElem]

theorem ease_nil (h : ∀ p, l p = []) : s.ease l = s := by
  have hports : (s.ease l).ports = s.ports := vector_ext_get fun p => by
    rw [ease_port, h p, List.map_congr_left (g := id) fun r _ => eased_nil r, List.map_id]
  exact congrArg (fun ports => { s with ports := ports }) hports

/-- The records of a requester whose counts are taken back. -/
def easedOf (l : PortId → List Record) : Requester → List Record
  | .port p => l p
  | .host => []

theorem ease_queueOf (who : Requester) : (s.ease l).queueOf who = (s.queueOf who).map (eased (easedOf l who)) := by
  cases who with
  | port p =>
    change ((s.ease l).ports.get p).queue = _
    rw [ease_port]
    rfl
  | host => exact ((List.map_congr_left (g := id) fun r _ => eased_nil r).trans (List.map_id _)).symm

/-- The records whose counts are taken back are ACTIVE, and their ports' samples are low. -/
structure EasesLow (s : State) (l : PortId → List Record) : Prop where
  active : ∀ p, ∀ r ∈ l p, r.isActive = true
  low : ∀ p, l p ≠ [] → (s.ports.get p).ready = false

variable (h : s.EasesLow l)

include h

theorem EasesLow.activeOf {who : Requester} {r : Record} (hr : r ∈ easedOf l who) : r.isActive = true := by
  cases who with
  | port p => exact h.active p r hr
  | host => cases hr

/-- What no record of the taken back counts answers, none of the queues answers otherwise. -/
theorem EasesLow.any {f : Record → Bool} (hf : ∀ r : Record, r.isActive = true → f { r with state := .active 0 } = f r) :
    (s.ease l).outstanding.any f = s.outstanding.any f := by
  have hone : ∀ who, ((s.ease l).queueOf who).any f = (s.queueOf who).any f := fun who => by
    rw [ease_queueOf, List.any_map]
    refine congrArg (fun g => (s.queueOf who).any g) (funext fun r => ?_)
    simp only [Function.comp, eased]
    split
    next hr => exact hf r (h.activeOf hr)
    · rfl
  simp only [outstanding, List.any_flatMap, hone]

/-! ### The decision -/

/-- A record with its count taken back offers as little as before: its port's sample is low. -/
theorem EasesLow.offer_none {who : Requester} {r x : Record} (hr : r ∈ easedOf l who) (hx : x.isActive = true)
    (older : List Record) : s.offer who older x = none := by
  have hready : s.readyFor who = false := by
    cases who with
    | port p => exact h.low p (List.ne_nil_of_mem hr)
    | host => cases hr
  unfold offer
  dsimp only
  rw [hready, hx]
  simp

theorem EasesLow.offer (who : Requester) (older : List Record) (r : Record) :
    (s.ease l).offer who (older.map (eased (easedOf l who))) (eased (easedOf l who) r) = s.offer who older r := by
  have hready : (s.ease l).readyFor = s.readyFor := by
    funext who
    cases who with
    | port p =>
      change ((s.ease l).ports.get p).ready = _
      rw [ease_port]
      rfl
    | host => rfl
  have hlook : (s.ease l).inLookahead who (older.map (eased (easedOf l who))) = s.inLookahead who older := by
    cases who with
    | port p =>
      simp only [inLookahead, List.length_map]
      rfl
    | host =>
      simp only [inLookahead, List.isEmpty_map]
  have hsame : ∀ x, (s.ease l).offer who (older.map (eased (easedOf l who))) x = s.offer who older x := fun x => by
    have hact : (s.ease l).mayAct who (older.map (eased (easedOf l who))) x = s.mayAct who older x := by
      unfold mayAct
      rw [hlook, hazardFree_eased]
      rfl
    unfold State.offer
    rw [hact, hready]
    rfl
  rw [hsame]
  by_cases hr : r ∈ easedOf l who
  · rw [h.offer_none hr ((eased_isActive (fun _ hr => h.activeOf hr) r).trans (h.activeOf hr)), h.offer_none hr (h.activeOf hr)]
  · rw [eased_of_not_mem hr]

theorem EasesLow.offers : (s.ease l).offers = s.offers := by
  funext who
  have step : ∀ (q older : List Record),
      (s.ease l).offersFrom who (older.map (eased (easedOf l who))) (q.map (eased (easedOf l who))) =
        s.offersFrom who older q := by
    intro q
    induction q with
    | nil => exact fun _ => rfl
    | cons r rest ih =>
      intro older
      have hrest := ih (older ++ [r])
      rw [List.map_append, List.map_cons, List.map_nil] at hrest
      rw [List.map_cons, offersFrom, offersFrom, h.offer, hrest]
      cases ho : s.offer who older r with
      | none => rfl
      | some o =>
        have hr : r ∉ easedOf l who := fun hr => by
          rw [h.offer_none hr (h.activeOf hr)] at ho
          cases ho
        simp only [eased_of_not_mem hr]
  unfold State.offers
  rw [ease_queueOf]
  exact step _ []

/-- The decision is the same (R103). -/
theorem EasesLow.choose : (s.ease l).choose = s.choose := by
  refine choose_congr rfl h.offers ?_ ?_ ?_
  · have hany : ∀ b, (s.ease l).outstanding.any (fun r => r.state == .suspended && r.namesOpenRow (s.banks.get b) b) =
        s.outstanding.any fun r => r.state == .suspended && r.namesOpenRow (s.banks.get b) b := fun b => h.any fun r hr => by
      have hne : (r.state == RecordState.suspended) = false := by
        simpa using Record.queued_or hr _ (.inr rfl)
      rw [hne]
      rfl
    unfold drainClose
    have hbanks : (s.ease l).banks = s.banks := rfl
    simp only [hbanks, hany]
    rfl
  · funext b
    unfold idleClosable
    rw [show (s.ease l).banks = s.banks from rfl, h.any fun _ _ => rfl]
    rfl
  · funext b
    unfold pullInEligible
    rw [h.any fun _ _ => rfl]
    rfl

end Eased

/-! ### The command -/

section Command

variable {l : PortId → List Record} {ready : BitVec 4} {drive : Option BurstData}

theorem ease_release (r : Record) : (s.ease l).release r = (s.release r).ease l := by
  unfold release
  dsimp only
  split <;> rfl

theorem ease_moveBurst (r : Record) (drive : Option BurstData) : (s.ease l).moveBurst r drive = (s.moveBurst r drive).ease l := by
  unfold moveBurst
  dsimp only
  split <;> rfl

theorem ease_sampleWord (r : Record) : (s.ease l).sampleWord r = (s.sampleWord r).ease l := by
  cases hk : r.kind with
  | write => simp only [sampleWord, hk]
  | read =>
    have hphys : (s.ease l).physOf r.bank = s.physOf r.bank := rfl
    have hdram : (s.ease l).dram = s.dram := rfl
    simp only [sampleWord, hk, hphys, hdram]
    split <;> rfl

theorem ease_burstHost (r : Record) : (s.ease l).burstHost r = (s.burstHost r).ease l := by
  unfold burstHost
  rw [ease_sampleWord, ease_release]
  rfl

/-- A change at a port whose counts stay as they are. -/
theorem ease_modPort {p : PortId} (hp : l p = []) (f : Port → Port) : (s.ease l).modPort p f = (s.modPort p f).ease l := by
  have hid : ∀ k : Port, { k with queue := k.queue.map (eased (l p)) } = k := fun k => by
    rw [hp, List.map_congr_left (g := id) fun r _ => eased_nil r, List.map_id]
  have hports : ((s.ease l).modPort p f).ports = ((s.modPort p f).ease l).ports := vector_ext_get fun q => by
    rw [modPort_get, ease_port, ease_port, ease_port, modPort_get]
    by_cases hq : p = q
    · subst hq
      rw [if_pos rfl, if_pos rfl, hid, hid]
    · rw [if_neg hq, if_neg hq]
  exact congrArg (fun ports => { s with ports := ports }) hports

theorem ease_burstClient {p : PortId} (hp : l p = []) (r : Record) : (s.ease l).burstClient p r = (s.burstClient p r).ease l := by
  have hnotify : (s.ease l).notify p (.beat r.tag r.burstsDone) = (s.notify p (.beat r.tag r.burstsDone)).ease l :=
    ease_modPort hp _
  unfold burstClient
  dsimp only
  rw [hnotify]
  split
  · unfold finishClient
    rw [ease_release, ease_modPort hp]
  · unfold advanceClient
    dsimp only
    rw [ease_modPort hp]
    split <;> rfl

theorem ease_retirementCheck (b : BankId) : (s.ease l).retirementCheck b = (s.retirementCheck b).ease l := by
  refine retirementCheck_hom (G := ease l) (fun _ => rfl) (fun _ => rfl) (fun s => ?_) s
  have hacc : (s.ease l).account b = s.account b := rfl
  have hregions : (s.ease l).regions = s.regions := rfl
  unfold retireOne
  dsimp only
  rw [hacc, hregions]
  split <;> rfl

/-- The command does not read the stall counts; a burst is of a port whose counts stay as they are. -/
theorem ease_issue {a : Action} (ha : ∀ p r, a = .burst (.port p) r → l p = []) :
    (s.ease l).issue drive a = (s.issue drive a).ease l := by
  cases a with
  | refresh b =>
    exact ease_retirementCheck (s := (((s.beginRefresh b).drive (.refresh b (s.account b).pointer)).noteRefresh b
      (s.account b).pointer).modAccount b Account.pay) b
  | burst who r =>
    cases who with
    | port p =>
      exact (congrArg (fun u : State => u.burstClient p r) (ease_moveBurst r drive)).trans (ease_burstClient (ha p r rfl) r)
    | host => exact (congrArg (fun u : State => u.burstHost r) (ease_moveBurst r drive)).trans (ease_burstHost r)
  | _ => rfl

theorem ease_beginWindow : (s.ease l).beginWindow = s.beginWindow.ease l := by
  have hdecided : (s.ease l).decided = s.decided := rfl
  have hports : (s.ease l).ports.map Port.beginWindow =
      ({ s with ports := s.ports.map Port.beginWindow }.ease l).ports := vector_ext_get fun p => by
    rw [get_map, ease_port, ease_port, get_map]
    rfl
  unfold beginWindow
  rw [hdecided]
  split
  · exact congrArg (fun ports => { s with ports := ports, decided := false }) hports
  · rfl

theorem ease_sampleReady : (s.ease l).sampleReady ready = (s.sampleReady ready).ease l := by
  have hports : ((s.ease l).sampleReady ready).ports = ((s.sampleReady ready).ease l).ports := vector_ext_get fun p => by
    rw [ease_port]
    simp only [sampleReady, get_mapIdx, ease_port]
  exact congrArg (fun ports => { s with ports := ports }) hports

theorem ease_begun : (s.ease l).begun ready = (s.begun ready).ease l := by
  unfold begun
  rw [ease_beginWindow, ease_sampleReady]

/-- The command of the window is the same (R89). -/
theorem ease_commanded (h : (s.sampleReady ready).EasesLow l) :
    (s.ease l).commanded ready drive = (s.commanded ready drive).ease l := by
  have hchoice : (s.ease l).choice ready = s.choice ready := by
    unfold choice
    rw [ease_sampleReady, h.choose]
  cases hc : s.choice ready with
  | none =>
    rw [commanded_of_none hc, commanded_of_none (hchoice.trans hc), ease_begun]
    rfl
  | some x =>
    obtain ⟨ptr, a⟩ := x
    have ha : ∀ p r, a = .burst (.port p) r → l p = [] := by
      rintro p r rfl
      obtain ⟨-, -, hsample, -⟩ := choice_burst hc
      by_contra hl
      have hlow := h.low p hl
      have hready : ((s.sampleReady ready).ports.get p).ready = s.sampled ready p := by
        simp only [sampleReady, get_mapIdx, sampled]
      exact absurd ((hsample p rfl).symm.trans (hready.symm.trans hlow)) (by decide)
    rw [commanded_of_some hc, commanded_of_some (hchoice.trans hc), ease_begun, ease_issue ha]
    rfl

theorem ease_advanceWheel (hf : ∀ ret, ¬s.FlipsTo ret) (hf' : ∀ ret, ¬(s.ease l).FlipsTo ret) :
    (s.ease l).advanceWheel = s.advanceWheel.ease l := by
  by_cases h : s.Wraps
  · rw [advanceWheel_of_waiting h hf, advanceWheel_of_waiting (s := s.ease l) h hf']
    rfl
  · rw [advanceWheel_of_inside h, advanceWheel_of_inside (s := s.ease l) h]
    rfl

end Command

end State

end Sys2Proof.Machine

end

section
/-! PROOFS. The stall aborts of a window (3.7): the records that leave, by port and then by queue order, and what they give
back. -/

-- One proof after another: a thread for each would reserve more memory than the check allows.
set_option Elab.async false

namespace Sys2Proof.Machine

variable {s t u : State}

/-! ### The records that leave a queue -/

/-- The records but for those that carry a tag of `l`. -/
def untagged (l k : List Record) : List Record := k.filter fun r => ∀ x ∈ l, r.tag ≠ x.tag

theorem untagged_nil (k : List Record) : untagged [] k = k := List.filter_eq_self.2 fun r _ => by simp

theorem eraseTags_eq {k : List Record} (hk : (k.map Record.tag).Nodup) (l : List Record) :
    l.foldl (fun q r => q.eraseP fun x => x.tag == r.tag) k = untagged l k := by
  induction l generalizing k with
  | nil => exact (untagged_nil k).symm
  | cons r l ih =>
    have hone := eraseP_eq_filter_tag hk r
    have hnodup : ((k.filter fun q => q.tag ≠ r.tag).map Record.tag).Nodup := hk.sublist (List.filter_sublist.map _)
    rw [List.foldl_cons, hone, ih hnodup, untagged, untagged, List.filter_filter]
    exact List.filter_congr fun x _ => by simp [Bool.and_comm]

theorem untagged_map {f : Record → Record} (hf : ∀ r, (f r).tag = r.tag) (l k : List Record) :
    untagged l (k.map f) = (untagged l k).map f := by
  unfold untagged
  rw [List.filter_map]
  congr 1
  exact List.filter_congr fun x _ => by simp [hf]

theorem untagged_of_tags {l l' : List Record} (h : l'.map Record.tag = l.map Record.tag) (k : List Record) :
    untagged l' k = untagged l k := by
  have hmem : ∀ (l : List Record) (n : Fin 16), (∀ x ∈ l, n ≠ x.tag) ↔ n ∉ l.map Record.tag := fun l n => by
    simp only [List.mem_map, not_exists, not_and]
    exact ⟨fun hn x hx he => hn x hx he.symm, fun hn x hx he => hn x hx he.symm⟩
  exact List.filter_congr fun r _ => by simp only [hmem, h]

namespace State

/-! ### The aborts of one port -/

/-- The records of port `p` whose counts the window's low sample takes to the limit, with those counts (R55). -/
def aborting (s : State) (p : PortId) : List Record :=
  if (s.ports.get p).ready then []
  else ((s.ports.get p).queue.map Record.stallMore).filter (Record.stalledOut s.runPage.stallLimit)

/-- The ports after the aborts of the records `l p` of each port `p` of `ps`. -/
structure Aborts (s t : State) (ps : List PortId) (l : PortId → List Record) : Prop where
  counts : s.CountsLowered t (ps.flatMap l)
  pins : s.PinsLowered t (ps.flatMap l)
  events : t.events = (ps.foldl (fun u p => (l p).foldl (postStall p) u) s).events

theorem posts_events_congr {p : PortId} {l : List Record} (h : t.events = s.events) :
    (l.foldl (postStall p) t).events = (l.foldl (postStall p) s).events := by
  induction l generalizing s t with
  | nil => exact h
  | cons r l ih => exact ih (post_events_congr h _ _ _ _)

theorem aborts_events {p : PortId} {l : List Record} (h : t.events = s.events) :
    (l.foldl (abortRecord p) t).events = (l.foldl (postStall p) s).events := by
  induction l generalizing s t with
  | nil => exact h
  | cons r l ih =>
    refine ih ?_
    rw [abortRecord_eq]
    exact post_events_congr h _ _ _ _

theorem aborts_counts (p : PortId) (l : List Record) (s : State) : s.CountsLowered (l.foldl (abortRecord p) s) l := by
  induction l generalizing s with
  | nil => exact s.releaseAll_counts []
  | cons r l ih =>
    have hone : s.CountsLowered (abortRecord p s r) [r] := (s.releaseAll_counts [r]).of_regions rfl (by
      rw [abortRecord_eq]
      rfl)
    exact hone.trans (ih _)

theorem aborts_pins (p : PortId) (l : List Record) (s : State) : s.PinsLowered (l.foldl (abortRecord p) s) l := by
  induction l generalizing s with
  | nil => exact s.releaseAll_pins []
  | cons r l ih =>
    have hone : s.PinsLowered (abortRecord p s r) [r] := (s.releaseAll_pins [r]).of_banks rfl (by
      rw [abortRecord_eq]
      rfl)
    exact hone.trans (ih _)

theorem aborts_port (p q : PortId) (l : List Record) (s : State) : (l.foldl (abortRecord p) s).ports.get q =
    if p = q then
      { s.ports.get p with
        queue := l.foldl (fun k r => k.eraseP fun x => x.tag == r.tag) (s.ports.get p).queue
        outbound := (s.ports.get p).outbound ++ l.map (Record.doneNotice .stalled) }
    else s.ports.get q := by
  have hone : ∀ (s : State) (r : Record), (abortRecord p s r).ports.get q = (s.finishClient p r .stalled).ports.get q :=
    fun s r => by rw [abortRecord_eq]
  have hself : ∀ (s : State) (r : Record), (abortRecord p s r).ports.get p = (s.finishClient p r .stalled).ports.get p :=
    fun s r => by rw [abortRecord_eq]
  induction l generalizing s with
  | nil =>
    by_cases hq : p = q
    · subst hq
      rw [if_pos rfl, List.map_nil, List.append_nil]
      rfl
    · rw [if_neg hq]
      rfl
  | cons r l ih =>
    rw [List.foldl_cons, ih]
    by_cases hq : p = q
    · subst hq
      rw [if_pos rfl, if_pos rfl, hone, finishClient_get, if_pos rfl]
      simp only [List.foldl_cons, List.map_cons, List.append_assoc, List.singleton_append]
    · rw [if_neg hq, if_neg hq, hone, finishClient_get, if_neg hq]

theorem stalled_of_high {k : Port} (h : k.ready = true) : stalled k = k := if_pos h

theorem stalled_of_low {k : Port} (h : k.ready = false) : stalled k = { k with queue := k.queue.map Record.stallMore } :=
  if_neg (by rw [h]; decide)

/-- A port after its stall counts and its aborts (R55). -/
def abortedPort (s : State) (p : PortId) : Port :=
  { stalled (s.ports.get p) with
    queue := untagged (s.aborting p) (stalled (s.ports.get p)).queue
    outbound := (s.ports.get p).outbound ++ (s.aborting p).map (Record.doneNotice .stalled) }

theorem stallPort_of_high {p : PortId} (h : (s.ports.get p).ready = true) :
    s.stallPort p = s ∧ s.aborting p = [] ∧ s.abortedPort p = s.ports.get p := by
  have hnone : s.aborting p = [] := if_pos h
  refine ⟨if_pos h, hnone, ?_⟩
  unfold abortedPort
  rw [hnone, stalled_of_high h, untagged_nil, List.map_nil, List.append_nil]

theorem stallPort_of_low {p : PortId} (h : (s.ports.get p).ready = false) : s.stallPort p =
    (s.aborting p).foldl (abortRecord p) (s.modPort p fun k => { k with queue := k.queue.map Record.stallMore }) := by
  have hneg : ¬(s.ports.get p).ready = true := by
    rw [h]
    decide
  unfold stallPort aborting
  dsimp only
  rw [if_neg hneg, if_neg hneg, modPort_get_self]

theorem aborts_nil {l : PortId → List Record} : s.Aborts s [] l :=
  ⟨s.releaseAll_counts [], s.releaseAll_pins [], rfl⟩

theorem posts_ports_congr {ps : List PortId} {l : PortId → List Record} (h : t.events = s.events) :
    (ps.foldl (fun u p => (l p).foldl (postStall p) u) t).events =
      (ps.foldl (fun u p => (l p).foldl (postStall p) u) s).events := by
  induction ps generalizing s t with
  | nil => exact h
  | cons p ps ih => exact ih (posts_events_congr h)

theorem Aborts.cons {p : PortId} {ps : List PortId} {l l' : PortId → List Record} (h : s.Aborts t [p] l)
    (h' : t.Aborts u ps l') (hl : ∀ q ∈ ps, l' q = l q) : s.Aborts u (p :: ps) l := by
  have hflat : ps.flatMap l' = ps.flatMap l := by
    rw [List.flatMap_def, List.flatMap_def, List.map_congr_left hl]
  have hposts : ∀ v : State, ps.foldl (fun u p => (l' p).foldl (postStall p) u) v =
      ps.foldl (fun u p => (l p).foldl (postStall p) u) v := fun v =>
    List.foldl_ext _ _ _ fun u q hq => by rw [hl q hq]
  obtain ⟨hcounts, hpins, hevents⟩ := h
  obtain ⟨hcounts', hpins', hevents'⟩ := h'
  rw [List.flatMap_singleton] at hcounts hpins
  rw [hflat] at hcounts' hpins'
  rw [hposts] at hevents'
  refine ⟨?_, ?_, hevents'.trans (posts_ports_congr hevents)⟩
  · rw [List.flatMap_cons]
    exact hcounts.trans hcounts'
  · rw [List.flatMap_cons]
    exact hpins.trans hpins'

/-- The stall counts of one port in a window, and its aborts (R55). -/
theorem stallPort_aborts (p : PortId) (htags : (s.ports.get p).ready = false → ((s.ports.get p).queue.map Record.tag).Nodup) :
    s.Aborts (s.stallPort p) [p] s.aborting ∧
      ∀ q, (s.stallPort p).ports.get q = if p = q then s.abortedPort p else s.ports.get q := by
  cases hr : (s.ports.get p).ready with
  | true =>
    obtain ⟨hsame, hnone, hport⟩ := stallPort_of_high hr
    rw [hsame]
    refine ⟨⟨?_, ?_, ?_⟩, fun q => ?_⟩
    · rw [List.flatMap_singleton, hnone]
      exact s.releaseAll_counts []
    · rw [List.flatMap_singleton, hnone]
      exact s.releaseAll_pins []
    · rw [List.foldl_cons, List.foldl_nil, hnone]
      rfl
    · split
      next hq => rw [hport, hq]
      · rfl
  | false =>
    have htag : Record.tag ∘ Record.stallMore = Record.tag := funext fun r => by
      simp only [Function.comp, Record.stallMore]
      split <;> rfl
    have hnodup : (((s.ports.get p).queue.map Record.stallMore).map Record.tag).Nodup := by
      rw [List.map_map, htag]
      exact htags hr
    rw [stallPort_of_low hr]
    refine ⟨⟨?_, ?_, ?_⟩, fun q => ?_⟩
    · rw [List.flatMap_singleton]
      exact (aborts_counts p (s.aborting p) (s.modPort p _)).of_regions rfl rfl
    · rw [List.flatMap_singleton]
      exact (aborts_pins p (s.aborting p) (s.modPort p _)).of_banks rfl rfl
    · rw [List.foldl_cons, List.foldl_nil]
      exact aborts_events rfl
    · rw [aborts_port]
      by_cases hq : p = q
      · rw [if_pos hq, if_pos hq, modPort_get_self, abortedPort, stalled_of_low hr]
        dsimp only
        rw [eraseTags_eq hnodup]
      · rw [if_neg hq, if_neg hq, s.modPort_get, if_neg hq]

/-- The stall counts of a window at several ports, and their aborts, port by port (R55, log 22). -/
theorem stallPorts_aborts {ps : List PortId} (hps : ps.Nodup)
    (htags : ∀ p ∈ ps, (s.ports.get p).ready = false → ((s.ports.get p).queue.map Record.tag).Nodup) :
    s.Aborts (ps.foldl stallPort s) ps s.aborting ∧
      ∀ q, (ps.foldl stallPort s).ports.get q = if q ∈ ps then s.abortedPort q else s.ports.get q := by
  induction ps generalizing s with
  | nil => exact ⟨aborts_nil, fun q => rfl⟩
  | cons p ps ih =>
    obtain ⟨hp, hps⟩ := List.nodup_cons.1 hps
    obtain ⟨hone, hports⟩ := stallPort_aborts p (htags p List.mem_cons_self)
    have hother : ∀ q, q ≠ p → (s.stallPort p).ports.get q = s.ports.get q := fun q hq => by
      rw [hports q, if_neg (Ne.symm hq)]
    have hpage : (s.stallPort p).runPage = s.runPage := by
      rw [stallPort_eq]
      rfl
    have haborting : ∀ q ∈ ps, (s.stallPort p).aborting q = s.aborting q := fun q hq => by
      have hne : q ≠ p := fun h => hp (h ▸ hq)
      unfold aborting
      rw [hother q hne, hpage]
    obtain ⟨hrest, hrest'⟩ := ih (s := s.stallPort p) hps fun q hq hr => by
      have hne : q ≠ p := fun h => hp (h ▸ hq)
      rw [hother q hne] at hr ⊢
      exact htags q (List.mem_cons_of_mem _ hq) hr
    refine ⟨hone.cons hrest haborting, fun q => ?_⟩
    rw [List.foldl_cons, hrest' q]
    by_cases hq : q ∈ ps
    · have hne : q ≠ p := fun h => hp (h ▸ hq)
      rw [if_pos hq, if_pos (List.mem_cons_of_mem _ hq), abortedPort, abortedPort, haborting q hq, hother q hne]
    · rw [if_neg hq, hports q]
      by_cases hpq : p = q
      · subst hpq
        rw [if_pos rfl, if_pos List.mem_cons_self]
      · rw [if_neg hpq, if_neg (by simp [hq, Ne.symm hpq])]

end State

end Sys2Proof.Machine

end

section
/-! PROOFS. The stall aborts of a window against the window without them (3.7, 8.6). -/

-- One proof after another: a thread for each would reserve more memory than the check allows.
set_option Elab.async false

namespace Sys2Proof.Machine

variable {s t u : State}

/-! ### A record that has waited -/

theorem Record.waited_keeps (low : Bool) (r : Record) :
    r.waited low = { r with state := (r.waited low).state, age := (r.waited low).age } := by
  unfold Record.waited
  split
  · split <;> rfl
  · rfl

theorem Record.waited_isActive (low : Bool) (r : Record) : (r.waited low).isActive = r.isActive := by
  cases h : r.state with
  | active n => cases low <;> simp [Record.waited, Record.isActive, h]
  | queued => simp [Record.waited, Record.isActive, h]
  | suspended => simp [Record.waited, Record.isActive, h]

theorem Record.waited_stalledOut (limit : Nat) (r : Record) : (r.waited true).stalledOut limit =
    match r.state with
    | .active n => Decidable.decide (limit ≤ n + 1)
    | _ => false := by
  cases h : r.state with
  | active n => simp [Record.waited, Record.stalledOut, h]
  | queued => simp [Record.waited, Record.stalledOut, h]
  | suspended => simp [Record.waited, Record.stalledOut, h]

theorem waited_map (l : List Record) (low : Bool) : l.map (Record.waited low) =
    if low then (l.map Record.grow).map Record.stallMore else l.map Record.grow := by
  cases low with
  | true =>
    rw [if_pos rfl, List.map_map]
    exact List.map_congr_left fun r _ => by simp [Record.waited_eq]
  | false =>
    rw [if_neg (by decide)]
    exact List.map_congr_left fun r _ => by simp [Record.waited_eq]

theorem untagged_eased (l k : List Record) (f : Record → Record) (hf : ∀ r, (f r).tag = r.tag) :
    untagged l ((k.map (eased l)).map f) = untagged l (k.map f) := by
  have heased : ∀ r, (eased l r).tag = r.tag := fun r => by rw [eased_keeps]
  rw [untagged_map hf, untagged_map hf, untagged_map heased]
  congr 1
  refine (List.map_congr_left (g := id) fun r hr => eased_of_not_mem fun hrl => ?_).trans (List.map_id _)
  unfold untagged at hr
  have := (List.mem_filter.1 hr).2
  simp only [decide_eq_true_eq] at this
  exact this r hrl rfl

namespace State

variable {ready : BitVec 4} {drive : Option BurstData} {p : PortId}

/-! ### The records that are stall-aborted -/

theorem mem_stalledIn {r : Record} : r ∈ s.stalledIn ready p ↔
    s.sampled ready p = false ∧ r ∈ (s.ports.get p).queue ∧ ∃ n, r.state = .active n ∧ s.runPage.stallLimit ≤ n + 1 := by
  unfold stalledIn
  cases hs : s.sampled ready p with
  | true => simp
  | false =>
    rw [if_neg (by decide), List.mem_filter]
    refine ⟨fun ⟨hr, hlimit⟩ => ⟨rfl, hr, ?_⟩, fun ⟨_, hr, n, hn, hlimit⟩ => ⟨hr, by simpa [hn] using hlimit⟩⟩
    split at hlimit
    next n hn => exact ⟨n, hn, by simpa using hlimit⟩
    · cases hlimit

theorem stalledIn_low (hl : s.stalledIn ready p ≠ []) : s.sampled ready p = false := by
  obtain ⟨r, hr⟩ := List.exists_mem_of_ne_nil _ hl
  exact (mem_stalledIn.1 hr).1

theorem stalledIn_easesLow : (s.sampleReady ready).EasesLow (s.stalledIn ready) where
  active p r hr := by
    obtain ⟨-, -, n, hn, -⟩ := mem_stalledIn.1 hr
    unfold Record.isActive
    rw [hn]
  low p hl := by
    have hs := stalledIn_low hl
    simp only [sampleReady, get_mapIdx]
    exact hs

/-! ### The ports at which the sample is low -/

theorem issueBurst_host_ports (r : Record) : (s.issueBurst .host r drive).ports = s.ports := by
  change ((s.moveBurst r drive).burstHost r).ports = s.ports
  rw [burstHost_eq, hostDone_eq]
  change ((s.moveBurst r drive).sampleWord r).ports = s.ports
  rw [sampleWord_eq]
  change (s.moveBurst r drive).ports = s.ports
  rw [moveBurst_eq]

/-- The READY samples stand through the command. -/
theorem commanded_ready (q : PortId) : ((s.commanded ready drive).ports.get q).ready = s.sampled ready q := by
  have hbegun : ((s.begun ready).ports.get q).ready = s.sampled ready q := by rw [begun_port]
  by_cases hb : ∃ ptr who r, s.choice ready = some (ptr, .burst who r)
  · obtain ⟨ptr, who, r, hc⟩ := hb
    have hports : (s.commanded ready drive).ports = ((s.begun ready).issueBurst who r drive).ports := by
      rw [commanded_burst hc]
    rw [hports]
    cases who with
    | port p =>
      by_cases hpq : p = q
      · rw [← hpq, issueBurst_ready, hpq, hbegun]
      · rw [issueBurst_other hpq, hbegun]
    | host => rw [issueBurst_host_ports, hbegun]
  · rw [commanded_eq_of_no_burst fun ptr who r hc => hb ⟨ptr, who, r, hc⟩]
    exact hbegun

/-- A port whose sample is low keeps its queue through the command: no burst is issued for it (R21). -/
theorem commanded_low_queue {q : PortId} (hq : s.sampled ready q = false) :
    ((s.commanded ready drive).ports.get q).queue = (s.ports.get q).queue := by
  by_cases hb : ∃ ptr who r, s.choice ready = some (ptr, .burst who r)
  · obtain ⟨ptr, who, r, hc⟩ := hb
    have hports : (s.commanded ready drive).ports = ((s.begun ready).issueBurst who r drive).ports := by
      rw [commanded_burst hc]
    rw [hports]
    cases who with
    | port p =>
      obtain ⟨-, -, hsample, -⟩ := choice_burst hc
      have hpq : p ≠ q := fun hpq => absurd ((hsample p rfl).symm.trans (hpq ▸ hq)) (by decide)
      rw [issueBurst_other hpq, begun_queue]
    | host => rw [issueBurst_host_ports, begun_queue]
  · rw [commanded_eq_of_no_burst fun ptr who r hc => hb ⟨ptr, who, r, hc⟩]
    exact begun_queue ready q

/-! ### The passing of the timers over what the aborts have changed -/

theorem passed_drain : s.passed.DrainComplete ↔ s.DrainComplete := by
  have hqueue : s.passed.queueOf = s.queueOf := by
    funext who
    cases who with
    | port p =>
      change ((s.ports.map Port.tick).get p).queue = _
      rw [get_map]
      rfl
    | host => rfl
  have hbank : ∀ b, (s.passed.banks.get b).openRow? = (s.banks.get b).openRow? := fun b => by
    change ((s.banks.map Bank.pass).get b).openRow? = _
    rw [get_map, Bank.pass_openRow?]
  unfold DrainComplete
  rw [outstanding_congr hqueue]
  simp only [hbank]

theorem passed_congr (ht : t = { s with
      ports := t.ports, regions := t.regions, banks := t.banks, mode := t.mode, events := t.events })
    (hpage : t.runPage = s.runPage) (hrun : t.mode.sched.running = s.mode.sched.running) : t.passed = { s.passed with
      ports := t.passed.ports, regions := t.passed.regions, banks := t.passed.banks, mode := t.passed.mode
      events := t.passed.events } := by
  have hcredit : t.refill.credit = s.refill.credit := by
    rw [refill_credit, refill_credit, hpage, ht]
  have hrefresh : t.refresh = s.refresh := by rw [ht]
  unfold passed
  dsimp only
  rw [hcredit, hpage, hrun, hrefresh, ht]

theorem settleDrain_not_waiting : ¬(s.settleDrain.mode.sched = .drainHold ∧ s.settleDrain.DrainComplete) := by
  rintro ⟨hs, hd⟩
  by_cases h : s.mode.sched = .drainHold ∧ s.DrainComplete
  · rw [settleDrain_of_complete h.1 h.2] at hs
    cases hs
  · rw [settleDrain_of_not (not_and_or.1 h)] at hs hd
    exact h ⟨hs, hd⟩

/-- After a window no drain of DRAIN_HOLD is left complete (R145). -/
theorem window_not_waiting (hp : s.PagesSound) (hc : s.ConditioningSound) (hx : s.NoExpiry) :
    ¬((s.window ready drive).mode.sched = .drainHold ∧ (s.window ready drive).DrainComplete) := by
  by_cases hf : s.FlipsIn ready
  · obtain ⟨ret, hs⟩ := hf.1
    have hmode : (s.window ready drive).mode = s.mode.flipped ret := by
      rw [window_flips hp hc hf hs]
      change (s.flipped ready drive ret).mode = _
      rw [flipped_eq hf]
    rw [hmode]
    cases ret <;> exact fun h => nomatch h.1
  · by_cases he : s.EndsConditioning
    · have hinterval : 0 < (s.counted ready drive).runPage.refreshInterval := by
        rw [counted_runPage hf]
        exact lt_of_lt_of_le (by decide) (hp.1 s.mode.runSelect).refreshInterval.1
      rw [window_counted, ended_conditioning ((counted_ends hp hc).2 he) hinterval]
      intro h
      have hsched : (s.counted ready drive).endConditioning.passed.mode.sched = .run := by
        change (s.counted ready drive).endConditioning.mode.sched = .run
        rw [endConditioning_eq]
      rw [hsched] at h
      cases h.1
    · rw [window_quiet hp hc hf hx he, passed_drain]
      exact settleDrain_not_waiting

end State

end Sys2Proof.Machine

end

section
/-! PROOFS. Stall aborts by their own command and inside a window (3.7, 8.6). -/

-- One proof after another: a thread for each would reserve more memory than the check allows.
set_option Elab.async false

namespace Sys2Proof.Machine

variable {s t u : State}

namespace State

variable {ready : BitVec 4} {drive : Option BurstData} {p : PortId} {r : Record}

/-! ### What the aborts take, by the records before the window -/

theorem Aborts.of_waited {ps : List PortId} {l : PortId → List Record}
    (h : s.Aborts t ps fun q => (l q).map (Record.waited true)) : s.Aborts t ps l := by
  have hflat : ps.flatMap (fun q => (l q).map (Record.waited true)) = (ps.flatMap l).map (Record.waited true) :=
    (List.map_flatMap ..).symm
  obtain ⟨hcounts, hpins, hevents⟩ := h
  rw [hflat] at hcounts hpins
  refine ⟨fun i => ?_, fun b => ?_, hevents.trans ?_⟩
  · have hone := hcounts i
    rw [List.countP_map] at hone
    have hregion : ((fun r : Record => r.region == i) ∘ Record.waited true) = fun r => r.region == i := funext fun r => by
      simp only [Function.comp]
      rw [Record.waited_keeps]
    rwa [hregion] at hone
  · have hone := hpins b
    rw [List.countP_map] at hone
    have hactive : ((fun r : Record => r.isActive && r.bank == b) ∘ Record.waited true) = fun r => r.isActive && r.bank == b :=
      funext fun r => by
        have hbank : (r.waited true).bank = r.bank := by rw [Record.waited_keeps]
        simp only [Function.comp, Record.waited_isActive, hbank]
    rwa [hactive] at hone
  · have hpost : ∀ (q : PortId) (u : State) (r : Record), postStall q u (r.waited true) = postStall q u r := fun q u r => by
      unfold postStall
      rw [Record.waited_keeps]
    simp only [List.foldl_map, hpost]

theorem Aborts.of_start {v : State} {ps : List PortId} {l : PortId → List Record} (h : s.Aborts t ps l)
    (hregions : v.regions = s.regions) (hbanks : v.banks = s.banks) (hevents : v.events = s.events) : v.Aborts t ps l :=
  ⟨h.counts.of_regions hregions rfl, h.pins.of_banks hbanks rfl, h.events.trans (posts_ports_congr hevents.symm)⟩

/-- The records that the counts of the window take to the limit are those that stood one short of it (R55). -/
theorem aborting_eq {w : State} (hpage : w.runPage = s.runPage) (hready : (w.ports.get p).ready = s.sampled ready p)
    (hqueue : s.sampled ready p = false → (w.ports.get p).queue = (s.ports.get p).queue) :
    (w.mapRecords Record.grow).aborting p = (s.stalledIn ready p).map (Record.waited true) := by
  have hport : (w.mapRecords Record.grow).ports.get p =
      { w.ports.get p with queue := (w.ports.get p).queue.map Record.grow } := get_map ..
  have hlimit : (w.mapRecords Record.grow).runPage = s.runPage := hpage
  unfold aborting stalledIn
  rw [hport, hlimit]
  dsimp only
  rw [hready]
  cases hs : s.sampled ready p with
  | true => rfl
  | false =>
    have hwaited := waited_map (s.ports.get p).queue true
    rw [if_pos rfl] at hwaited
    rw [if_neg (by decide), if_neg (by decide), hqueue hs, ← hwaited, List.filter_map]
    congr 1
    exact List.filter_congr fun r _ => r.waited_stalledOut _

theorem stalled_eq (k : Port) :
    stalled k = { k with queue := if (!k.ready) = true then k.queue.map Record.stallMore else k.queue } := by
  by_cases hr : k.ready = true
  · have hsame : (if (!k.ready) = true then k.queue.map Record.stallMore else k.queue) = k.queue := if_neg (by simp [hr])
    rw [hsame]
    exact stalled_of_high hr
  · have hrise : (if (!k.ready) = true then k.queue.map Record.stallMore else k.queue) = k.queue.map Record.stallMore :=
      if_pos (by simpa using hr)
    rw [hrise]
    exact stalled_of_low (by simpa using hr)

/-- A port after its aborts, against the port whose counts were taken back (R55). -/
theorem abortedPort_eq {w : State} {l : PortId → List Record} (q : PortId)
    (haborting : (w.mapRecords Record.grow).aborting q = (l q).map (Record.waited true)) :
    (w.mapRecords Record.grow).abortedPort q = { (w.ease l).waitedAll.ports.get q with
      queue := untagged (l q) ((w.ease l).waitedAll.ports.get q).queue
      outbound := ((w.ease l).waitedAll.ports.get q).outbound ++ (l q).map (Record.doneNotice .stalled) } := by
  have hport : (w.mapRecords Record.grow).ports.get q =
      { w.ports.get q with queue := (w.ports.get q).queue.map Record.grow } := get_map ..
  have heased : (w.ease l).waitedAll.ports.get q = { w.ports.get q with
      queue := ((w.ports.get q).queue.map (eased (l q))).map (Record.waited !(w.ports.get q).ready) } := by
    unfold waitedAll
    dsimp only
    rw [get_map, ease_port]
  have htags : ((l q).map (Record.waited true)).map Record.tag = (l q).map Record.tag := by
    rw [List.map_map]
    exact List.map_congr_left fun r _ => by
      simp only [Function.comp]
      rw [Record.waited_keeps]
  have hdone : ((l q).map (Record.waited true)).map (Record.doneNotice .stalled) = (l q).map (Record.doneNotice .stalled) := by
    rw [List.map_map]
    exact List.map_congr_left fun r _ => by
      simp only [Function.comp, Record.doneNotice]
      rw [Record.waited_keeps]
  have hkeep : ∀ low r, (Record.waited low r).tag = r.tag := fun low r => by rw [Record.waited_keeps]
  unfold abortedPort
  rw [haborting, untagged_of_tags htags, hdone, heased, hport, stalled_eq]
  dsimp only
  rw [untagged_eased _ _ _ (hkeep _), waited_map]

/-! ### The window with aborts against the window without them -/

theorem not_drained_of_active {q : PortId} (hr : r ∈ (s.ports.get q).queue) (ha : r.isActive = true) : ¬s.DrainComplete := by
  intro hd
  have := hd.1 r (mem_outstanding.2 ⟨.port q, hr⟩)
  unfold Record.isActive at ha
  rw [this] at ha
  cases ha

theorem not_flips_of_active {q : PortId} (hr : r ∈ (s.ports.get q).queue) (ha : r.isActive = true) : ¬s.FlipsIn ready := by
  intro hf
  have := hf.2.2.1 r (mem_outstanding.2 ⟨.port q, hr⟩)
  unfold Record.isActive at ha
  rw [this] at ha
  cases ha

/-- Where a record is aborted: `e` is the window's state before its timers without the aborts, `d` the one with them. -/
theorem window_aborts (hp : s.PagesSound) (hc : s.ConditioningSound) (hx : s.NoExpiry)
    (htags : ∀ q, ((s.ports.get q).queue.map Record.tag).Nodup) (h0 : r ∈ s.stalledIn ready p) (hne : ¬s.EndsConditioning) :
    ∃ e d : State, (s.unstalled ready).window ready drive = e.passed ∧ s.window ready drive = d.settleDrain.passed ∧
      e.mode = s.mode ∧ d = { e with ports := d.ports, regions := d.regions, banks := d.banks, events := d.events } ∧
      e.Aborts d allPorts (s.stalledIn ready) ∧
      ∀ q, d.ports.get q = { e.ports.get q with
        queue := untagged (s.stalledIn ready q) (e.ports.get q).queue
        outbound := (e.ports.get q).outbound ++ (s.stalledIn ready q).map (Record.doneNotice .stalled) } := by
  obtain ⟨hlow, hmem, n, hn, hlimit⟩ := mem_stalledIn.1 h0
  have hactive : r.isActive = true := by
    unfold Record.isActive
    rw [hn]
  have hf : ¬s.FlipsIn ready := not_flips_of_active hmem hactive
  have hU : eased (s.stalledIn ready p) r ∈ ((s.unstalled ready).ports.get p).queue := by
    rw [unstalled_eq, ease_port]
    exact List.mem_map_of_mem hmem
  have hUactive : (eased (s.stalledIn ready p) r).isActive = true :=
    (eased_isActive (fun x hx => stalledIn_easesLow.active p x hx) r).trans hactive
  have hfU : ¬(s.unstalled ready).FlipsIn ready := not_flips_of_active hU hUactive
  -- the state after the command and the wheel, on both sides
  have hflip := no_flip (drive := drive) hf
  have hcommanded : (s.unstalled ready).commanded ready drive = (s.commanded ready drive).ease (s.stalledIn ready) := by
    rw [unstalled_eq, ease_commanded stalledIn_easesLow]
  have hflipU : ∀ ret, ¬((s.commanded ready drive).ease (s.stalledIn ready)).FlipsTo ret := by
    rw [← hcommanded]
    exact no_flip hfU
  have hwheel := advanceWheel_keeps hflip
  have hwheelU := ease_advanceWheel hflip hflipU
  have hqueue := fun q hq => commanded_low_queue (s := s) (drive := drive) (ready := ready) (q := q) hq
  have hready := fun q => s.commanded_ready (ready := ready) (drive := drive) q
  have hmode := s.commanded_mode (ready := ready) (drive := drive)
  have hs : s.counted ready drive = (s.commanded ready drive).advanceWheel.countWindow.settleDrain := rfl
  have hsU : (s.unstalled ready).counted ready drive =
      ((s.commanded ready drive).advanceWheel.ease (s.stalledIn ready)).countWindow.settleDrain := by
    unfold counted
    rw [hcommanded, hwheelU]
  have hw : (s.commanded ready drive).advanceWheel.mode = s.mode ∧
      (s.commanded ready drive).advanceWheel.ports = (s.commanded ready drive).ports := by
    rw [hwheel]
    exact ⟨hmode, rfl⟩
  rw [window_quiet hp hc hf hx hne, window_quiet (s := s.unstalled ready) hp hc hfU hx hne, hs, hsU]
  rw [← hw.2] at hqueue hready
  generalize (s.commanded ready drive).advanceWheel = w at hw hqueue hready
  have hpage : w.runPage = s.runPage := congrArg (fun m : ModeControl => m.pages.get m.runSelect) hw.1
  have haborting := fun q => aborting_eq (w := w) hpage (hready q) (hqueue q)
  have hstalls : (w.ease (s.stalledIn ready)).StallsBelow := by
    intro q hq x hx m hm
    rw [ease_port] at hq hx
    have hlowq : s.sampled ready q = false := (hready q).symm.trans hq
    change m + 1 < w.runPage.stallLimit
    rw [hpage]
    dsimp only at hx
    rw [hqueue q hlowq] at hx
    obtain ⟨y, hy, rfl⟩ := List.mem_map.1 hx
    by_cases hyl : y ∈ s.stalledIn ready q
    · have hzero : m = 0 := by
        have : (eased (s.stalledIn ready q) y).state = .active 0 := by rw [eased, if_pos hyl]
        rw [this] at hm
        cases hm
        rfl
      have := (hp.1 s.mode.runSelect).stallLimit.1
      unfold runPage
      omega
    · rw [eased_of_not_mem hyl] at hm
      by_contra hle
      exact hyl (mem_stalledIn.2 ⟨hlowq, hy, m, hm, not_lt.1 hle⟩)
  have hnot : ¬(w.ease (s.stalledIn ready)).waitedAll.DrainComplete := by
    rw [waitedAll_drain]
    refine not_drained_of_active (q := p) (r := eased (s.stalledIn ready p) r) ?_ hUactive
    rw [ease_port]
    refine List.mem_map_of_mem ?_
    rw [hqueue p hlow]
    exact hmem
  have hspec := stallPorts_aborts (s := w.mapRecords Record.grow) (ps := allPorts) (by decide) fun q _ hq => by
    have hport : (w.mapRecords Record.grow).ports.get q =
        { w.ports.get q with queue := (w.ports.get q).queue.map Record.grow } := get_map ..
    rw [hport] at hq ⊢
    have hlowq : s.sampled ready q = false := (hready q).symm.trans hq
    have htag : Record.tag ∘ Record.grow = Record.tag := funext fun x => by
      simp only [Function.comp, Record.grow_eq]
      split <;> rfl
    dsimp only
    rw [hqueue q hlowq, List.map_map, htag]
    exact htags q
  obtain ⟨haborts, hports⟩ := hspec
  have hsame : (w.mapRecords Record.grow).aborting = fun q => (s.stalledIn ready q).map (Record.waited true) := funext haborting
  rw [hsame] at haborts
  refine ⟨(w.ease (s.stalledIn ready)).waitedAll, w.countWindow, ?_, rfl, hw.1, ?_, ?_, fun q => ?_⟩
  · rw [countWindow_quiet hstalls, settleDrain_of_not (.inr hnot)]
  · have hcount := w.countWindow_eq
    have hhost : w.hostQueue.map Record.grow = w.hostQueue.map (Record.waited false) := by
      rw [waited_map, if_neg (by decide)]
    rw [hhost] at hcount
    exact hcount
  · exact haborts.of_waited.of_start rfl rfl rfl
  · refine (hports q).trans ((if_pos ?_).trans (abortedPort_eq q (haborting q)))
    revert q
    decide

theorem Settled.passed (h : s.Settled t) : s.Settled t.passed := by
  unfold Settled
  rw [passed_drain]
  exact h

theorem posts_mode (ps : List PortId) (l : PortId → List Record) (s : State) :
    (ps.foldl (fun u p => (l p).foldl (postStall p) u) s).mode = s.mode :=
  foldl_keeps State.mode _ (fun u _ => foldl_keeps State.mode _ (fun v _ => v.post_mode ..) _ u) _ s

/-! ### A stall abort by its own command -/

/-- What is left of the port where a stall abort finishes its record (R55). -/
theorem aborted_eq {pre post : List Record} (hq : (u.ports.get p).queue = pre ++ r :: post) (hpre : ∀ q ∈ pre, q.tag ≠ r.tag) :
    abortRecord p (u.modPort p fun k => { k with ready := false, sampledLow := true }) r = { u with
      ports := put u.ports p { u.ports.get p with
        ready := false
        sampledLow := true
        queue := pre ++ post
        outbound := (u.ports.get p).outbound ++ [.done r.tag .stalled r.burstsDone r.preempted] }
      regions := (u.release r).regions
      banks := (u.release r).banks
      events := (u.post .stallAbort (.port p) (some r.tag) r.burstsDone).events } := by
  have hpost := post_events_congr (s := u) (t := u.modPort p fun k => { k with ready := false, sampledLow := true }) rfl
    .stallAbort (.port p) (some r.tag) r.burstsDone
  have hkept : ((u.modPort p fun k => { k with ready := false, sampledLow := true }).release r).regions = (u.release r).regions ∧
      ((u.modPort p fun k => { k with ready := false, sampledLow := true }).release r).banks = (u.release r).banks := by
    unfold release
    dsimp only
    split <;> exact ⟨rfl, rfl⟩
  rw [abortRecord_eq, hpost, finishClient_regions, finishClient_banks, hkept.1, hkept.2, finishClient_eq]
  simp only [modPort, get_put_self, put_put, hq, eraseP_tag hpre]
  rfl

theorem stallAbort_of_first {tag : Fin 16} {pre post : List Record} {n : Nat} (hq : (s.ports.get p).queue = pre ++ r :: post)
    (htag : r.tag = tag) (hpre : ∀ q ∈ pre, q.tag ≠ tag) (hs : r.state = .active n) (hl : s.runPage.stallLimit ≤ n + 1) :
    s.stallAbort p tag =
      (abortRecord p (s.beginWindow.modPort p fun k => { k with ready := false, sampledLow := true }) r).settleDrain := by
  subst htag
  unfold stallAbort
  rw [hq, find?_first_tag hpre]
  refine if_pos ?_
  simpa [Record.stallMore, Record.stalledOut, hs] using hl

theorem stallAbort_of_below {tag : Fin 16}
    (h : ∀ r ∈ (s.ports.get p).queue, r.tag = tag → ∀ n, r.state = .active n → n + 1 < s.runPage.stallLimit) :
    s.stallAbort p tag = s := by
  unfold stallAbort
  split
  next r hr =>
    refine if_neg ?_
    have hbelow := h r (List.mem_of_find?_eq_some hr) (by simpa using List.find?_some hr)
    cases hs : r.state with
    | active n => simpa [Record.stallMore, Record.stalledOut, hs] using hbelow n hs
    | queued => simp [Record.stallMore, Record.stalledOut, hs]
    | suspended => simp [Record.stallMore, Record.stalledOut, hs]
  · rfl

end State

end Sys2Proof.Machine

open Sys2Proof Sys2Proof.Machine

/-- Settles O60: by its own command the abort is the finish of one record; inside a window the records leave, and all else is
the window with their counts taken back. -/
theorem stallAbortFinishesItsRecord : Obligations.StallAbortFinishesItsRecord := by
  intro s p tag hr u
  have hbegun : u.regions = s.regions ∧ u.banks = s.banks ∧ u.mode = s.mode ∧ u.events = s.events := by
    change s.beginWindow.regions = _ ∧ s.beginWindow.banks = _ ∧ s.beginWindow.mode = _ ∧ s.beginWindow.events = _
    rw [State.beginWindow_eq]
    exact ⟨rfl, rfl, rfl, rfl⟩
  obtain ⟨hregions, hbanks, hmode, hevents⟩ := hbegun
  refine ⟨fun pre r post n hq htag hpre hs hl => ?_, fun h => ?_, ?_⟩
  · have hfirst := State.stallAbort_of_first hq htag hpre hs hl
    subst htag
    have heq := State.aborted_eq (u := u) ((s.beginWindow_queue p).trans hq) hpre
    refine ⟨_, (exec_stallAbort hr p r.tag).trans (congrArg _ hfirst), ?_, ?_, ?_, ?_⟩
    · refine (State.settleDrain_eq_of heq).trans ?_
      rw [State.settleDrain_regions, State.settleDrain_banks, heq]
    · refine (u.releaseAll_counts [r]).of_regions hregions.symm ?_
      rw [State.settleDrain_regions, heq]
      rfl
    · refine (u.releaseAll_pins [r]).of_banks hbanks.symm ?_
      rw [State.settleDrain_banks, heq]
      rfl
    · refine State.Settled.of_eq ?_ ?_
      · rw [heq, State.post_mode]
        exact hmode
      · rw [heq]
        exact State.post_events_congr hevents _ _ _ _
  · rw [exec_stallAbort hr, State.stallAbort_of_below h]
  · intro ready drive hp hc hqueues hx stalled all
    refine ⟨_, _, exec_windowDecision (s := s.unstalled ready) hr ready drive, exec_windowDecision hr ready drive, ?_⟩
    by_cases hsome : ∃ q r, r ∈ s.stalledIn ready q
    · obtain ⟨q, r, hmem⟩ := hsome
      have hne : ¬s.EndsConditioning := fun he => by
        have hinit : s.mode.sched = .init := hc.1.2 (by rw [he.1]; simp)
        have hr : r ∈ s.outstanding := State.mem_outstanding.2 ⟨.port q, (State.mem_stalledIn.1 hmem).2.1⟩
        rw [hqueues.2 (.inr hinit)] at hr
        cases hr
      obtain ⟨e, d, hv, ht, hemode, hframe, haborts, hports⟩ := State.window_aborts (drive := drive) hp hc hx
        (fun q => (hqueues.1 q).tagsDistinct) hmem hne
      have hdmode : d.mode = e.mode := by rw [hframe]
      have hsettled : d.settleDrain = { e with
          ports := d.settleDrain.ports, regions := d.settleDrain.regions, banks := d.settleDrain.banks
          mode := d.settleDrain.mode, events := d.settleDrain.events } := by
        rw [State.settleDrain_ports, State.settleDrain_regions, State.settleDrain_banks]
        exact State.settleDrain_eq_of hframe
      have hsched := d.settleDrain_mode
      rw [hdmode] at hsched
      rw [hv, ht]
      refine ⟨State.passed_congr hsettled ?_ ?_, fun q => ?_, ?_, fun b => ?_, ?_⟩
      · unfold State.runPage
        obtain h | ⟨-, h⟩ := hsched <;> rw [h]
      · obtain h | ⟨hs, h⟩ := hsched <;> rw [h]
        rw [hs]
        rfl
      · change (d.settleDrain.ports.map Port.tick).get q = { (e.ports.map Port.tick).get q with
          queue := untagged (stalled q) ((e.ports.map Port.tick).get q).queue
          outbound := ((e.ports.map Port.tick).get q).outbound ++ (stalled q).map (Record.doneNotice .stalled) }
        rw [get_map, get_map, State.settleDrain_ports, hports q]
        rfl
      · exact haborts.counts.of_regions rfl d.settleDrain_regions
      · change (d.settleDrain.banks.map Bank.pass).get b = { (e.banks.map Bank.pass).get b with
          pins := ((e.banks.map Bank.pass).get b).pins - all.countP fun r => r.isActive && r.bank == b }
        rw [get_map, get_map, State.settleDrain_banks, haborts.pins b]
        rfl
      · refine (d.settleDrain_settled.of_start ?_ ?_).passed
        · exact (State.posts_mode allPorts stalled e.passed).trans hdmode.symm
        · rw [haborts.events]
          exact State.posts_ports_congr rfl
    · have hnone : ∀ q, s.stalledIn ready q = [] := fun q =>
        List.eq_nil_iff_forall_not_mem.2 fun r hr => hsome ⟨q, r, hr⟩
      have hsame : s.unstalled ready = s := State.ease_nil hnone
      have hall : all = [] := by
        simp only [all, stalled, hnone, List.flatMap_cons, List.flatMap_nil, List.append_nil]
      have hwait := State.window_not_waiting (ready := ready) (drive := drive) hp hc hx
      rw [hsame, hall]
      generalize s.window ready drive = w at hwait ⊢
      refine ⟨rfl, fun q => ?_, State.releaseAll_counts _ [], State.releaseAll_pins _ [], ?_⟩
      · change w.ports.get q = { w.ports.get q with
          queue := untagged (s.stalledIn ready q) (w.ports.get q).queue
          outbound := (w.ports.get q).outbound ++ (s.stalledIn ready q).map (Record.doneNotice .stalled) }
        rw [hnone q, untagged_nil, List.map_nil, List.append_nil]
      · simp only [stalled, hnone, List.foldl_cons, List.foldl_nil]
        exact ⟨fun h => absurd h hwait, fun _ => ⟨rfl, rfl⟩⟩

end
